-- ==== Sys2Proof/Word.lean ====
section
/-! DEFINITION. The words, trits, cells and buffers of the device (00_scope.md R11, R12; 30_encoding.md R90). -/

namespace Sys2Proof

/-- A 64-bit word: bit b belongs to lane b (00_scope.md R11, 20_memory.md R76). -/
abbrev Word := BitVec 64

/-- A 32-bit register value or command word (10_state.md R32, 30_encoding.md R95). -/
abbrev Reg := BitVec 32

/-- A 2-bit lane code: high bit of the lane above its low bit (30_encoding.md R92). -/
abbrev Code := BitVec 2

/-- A byte of the host's register window (20_memory.md R72). -/
abbrev Byte := BitVec 8

/-- A balanced-ternary digit (00_scope.md R17). -/
inductive Trit where
  | neg
  | zero
  | pos
  deriving DecidableEq, Repr

/-- A cell: the pair (low, high) of 64-bit words that codes one trit in each of 64 lanes (00_scope.md R12). -/
structure Cell where
  L : Word
  H : Word
  deriving DecidableEq, Repr

/-- Every bit set (00_scope.md R11). -/
def all1 : Word := BitVec.allOnes 64

/-- No bit set (00_scope.md R11). -/
def all0 : Word := 0#64

/-- The cell with every lane pair (0,0): what the model names where the spec leaves a cell unspecified (log entry 6). -/
def Cell.blank : Cell := ⟨all0, all0⟩

/-- A state buffer: STATE_LENGTH = 729 cells, indexed 0..728 (00_scope.md R8, R12). -/
abbrev Buffer := Vector Cell 729

/-- The buffer the model names where the spec leaves one unspecified (log entry 6). -/
def Buffer.blank : Buffer := Vector.replicate 729 Cell.blank

end Sys2Proof
end

