-- ==== Sys2Proof/Config.lean ====
section
/-! DEFINITION. The constants of 00_scope.md R8, the instance parameters of R9, and the model's free values. -/

namespace Sys2Proof

namespace Config

/-- LANES: lanes of a word (00_scope.md R8). -/
def lanes : Nat := 64

/-- HASH_LENGTH: rate length in cells (00_scope.md R8). -/
def hashLength : Nat := 243

/-- STATE_LENGTH: state length in cells (00_scope.md R8). -/
def stateLength : Nat := 729

/-- ROUNDS: rounds of one Transform (00_scope.md R8). -/
def rounds : Nat := 27

/-- STRIDE_UP: the cursor's step while it is below 365 (00_scope.md R8). -/
def strideUp : Nat := 364

/-- STRIDE_DOWN, as the amount taken off: the cursor's step once it is 365 or more (00_scope.md R8). -/
def strideDown : Nat := 365

/-- CK_STEP: checksum growth of one widening (00_scope.md R8). -/
def ckStep : Nat := 3

/-- The free values of log entry 9: what Inc makes of a cell that is not uniform, where 42_nonce_search.md R153 says
Inc is not defined: the cell's new low word, its new high word, and whether the carry goes on. No reachable state
uses them. -/
opaque nonDigitLow : Cell → Word

/-- See nonDigitLow: the new high word. -/
opaque nonDigitHigh : Cell → Word

/-- See nonDigitLow: whether the carry goes on. -/
opaque nonDigitCarry : Cell → Bool

/-- The free value of log entry 12: what a host read returns while rst is held (93_implementation_defined.md U16). -/
opaque readWhileReset : Nat → Reg

end Config

/-- The parameters of one device instance that are data (00_scope.md R9). They stand in State and no step writes
them, so that every statement over states holds for every value (log entry 4). -/
structure Params where
  /-- NW_MAX: the number of search workers. -/
  nwMax : Nat
  /-- TRANSACTION_LENGTH: the message length that a nonce search requires. -/
  transactionLength : Nat
  /-- LANE_PATTERN: the four cells that LANE_PATTERN writes (41_absorber.md R138). -/
  lanePattern : Vector Cell 4
  /-- TSP_BASE: the base of the register window in the host's address map (20_memory.md R71). -/
  tspBase : Nat
  deriving DecidableEq, Repr

namespace Params

/-- Lane b of the pattern: the four lane codes {high, low}, first cell first (41_absorber.md R138). -/
def laneTuple (p : Params) (b : Nat) : List (Bool × Bool) :=
  p.lanePattern.toList.map fun c => (c.H.getLsbD b, c.L.getLsbD b)

/-- The constraints of 00_scope.md R9 and 41_absorber.md R138. -/
def wf (p : Params) : Bool :=
  decide (1 ≤ p.nwMax) && decide (p.nwMax ≤ 255) &&
  decide (1 ≤ p.transactionLength) && decide (p.transactionLength ≤ 65535) &&
  p.lanePattern.toList.all (fun c => decide (c.L ||| c.H = all1)) &&
  decide (((List.range 64).map p.laneTuple).Nodup) &&
  decide (p.tspBase % 256 = 0)

end Params

namespace Config

/-- LP0, the candidate lane pattern of 41_absorber.md R139. PRESUMED: the spec marks it as general knowledge, not
in its source (log entry 5). -/
def lp0 : Vector Cell 4 :=
  #v[⟨0xDB6DB6DB6DB6DB6D#64, 0xB6DB6DB6DB6DB6DB#64⟩,
     ⟨0xF1F8FC7E3F1F8FC7#64, 0x8FC7E3F1F8FC7E3F#64⟩,
     ⟨0x7FFFE00FFFFC01FF#64, 0xFFC01FFFF803FFFF#64⟩,
     ⟨0xFFC0000007FFFFFF#64, 0x003FFFFFFFFFFFFF#64⟩]

/-- The instance that State.reset is the reset of: NW_MAX and TRANSACTION_LENGTH as in the example of
70_reset_and_hazards.md R262, LP0, and the window at 0. DESIGN CHOICE but for TRANSACTION_LENGTH (log entries 4
and 5): no statement rests on it. -/
def sampleParams : Params :=
  { nwMax := 4, transactionLength := 8019, lanePattern := lp0, tspBase := 0 }

end Config

end Sys2Proof
end

