-- ==== Sys2Proof/Syntax.lean ====
section
/-! DEFINITION. The commands of the device: one constructor per row of spec/opcode_table.json (30_encoding.md R97). -/

namespace Sys2Proof

/-- A command with its operand fields. Fields are unsigned integers taken as the bits stand, without scaling
(30_encoding.md R96); whether a field's value is in range is checked by execution (R99). -/
inductive Instr where
  /-- NOP, format F0 (44_host_access.md R220). -/
  | nop
  /-- ABSORB_INIT, format F0 (41_absorber.md R131). -/
  | absorbInit
  /-- ABSORB_TRITS N, A, format FT (41_absorber.md R132). -/
  | absorbTrits (n : Nat) (auto : Bool)
  /-- PAD_RATE, format F0 (41_absorber.md R134). -/
  | padRate
  /-- PERMUTE, format F0 (40_permutation.md R121). -/
  | permute
  /-- LANE_PATTERN OFF, format FO (41_absorber.md R137). -/
  | lanePattern (off : Nat)
  /-- INCREMENT LO, HI, format FR (42_nonce_search.md R155). -/
  | increment (lo hi : Nat)
  /-- READ_CELL IDX, format FI (44_host_access.md R221). -/
  | readCell (idx : Nat)
  /-- WRITE_CELL IDX, format FI (44_host_access.md R222). -/
  | writeCell (idx : Nat)
  /-- SEARCH_NONCE, format F0 (42_nonce_search.md R170). -/
  | searchNonce
  /-- SEARCH_CHECKSUM, format F0 (43_checksum.md R190). -/
  | searchChecksum
  /-- CANCEL, format F0 (42_nonce_search.md R186). -/
  | cancel
  deriving DecidableEq, Repr

end Sys2Proof
end

