-- ==== Sys2Proof/WellFormed.lean ====
section
/-! DEFINITION. The operand values that a command word can hold (30_encoding.md R96). -/

namespace Sys2Proof

/-- Every field fits the bits its format gives it: FT has N = [4:0], FO has OFF = [7:0], FR has LO = [9:0] and
HI = [19:10], FI has IDX = [9:0] (30_encoding.md R96). -/
def Instr.wf : Instr → Bool
  | .nop => true
  | .absorbInit => true
  | .absorbTrits n _ => decide (n < 32)
  | .padRate => true
  | .permute => true
  | .lanePattern off => decide (off < 256)
  | .increment lo hi => decide (lo < 1024) && decide (hi < 1024)
  | .readCell idx => decide (idx < 1024)
  | .writeCell idx => decide (idx < 1024)
  | .searchNonce => true
  | .searchChecksum => true
  | .cancel => true

end Sys2Proof
end

