-- ==== Sys2Proof/Decode.lean ====
section
/-! DEFINITION. Decoding and encoding of command words (30_encoding.md R95 to R100, R103). -/

namespace Sys2Proof

/-- The mnemonics of the opcode map, as names for its rows (30_encoding.md R97). -/
inductive Op where
  | nop | absorbInit | absorbTrits | padRate | permute | lanePattern | increment | readCell | writeCell
  | searchNonce | searchChecksum | cancel
  deriving DecidableEq, Repr

/-- One row of the opcode map: a word selects it iff word AND mask = pattern (30_encoding.md R97). -/
structure OpRow where
  op : Op
  pattern : Reg
  mask : Reg
  deriving DecidableEq, Repr

/-- The opcode map (30_encoding.md R97). -/
def opcodeMap : List OpRow :=
  [⟨.nop,            0x00000000#32, 0xFFFFFFFF#32⟩,
   ⟨.absorbInit,     0x01000000#32, 0xFFFFFFFF#32⟩,
   ⟨.absorbTrits,    0x02000000#32, 0xFFFFFEE0#32⟩,
   ⟨.padRate,        0x03000000#32, 0xFFFFFFFF#32⟩,
   ⟨.permute,        0x04000000#32, 0xFFFFFFFF#32⟩,
   ⟨.lanePattern,    0x05000000#32, 0xFFFFFF00#32⟩,
   ⟨.increment,      0x06000000#32, 0xFFF00000#32⟩,
   ⟨.readCell,       0x07000000#32, 0xFFFFFC00#32⟩,
   ⟨.writeCell,      0x08000000#32, 0xFFFFFC00#32⟩,
   ⟨.searchNonce,    0x10000000#32, 0xFFFFFFFF#32⟩,
   ⟨.searchChecksum, 0x11000000#32, 0xFFFFFFFF#32⟩,
   ⟨.cancel,         0x12000000#32, 0xFFFFFFFF#32⟩]

/-- The word selects the row (30_encoding.md R97). -/
def OpRow.selects (r : OpRow) (w : Reg) : Bool := w &&& r.mask == r.pattern

/-- `w[hi:lo]` as an unsigned value (00_scope.md R11). -/
def field (w : Reg) (hi lo : Nat) : Nat := (w.extractLsb hi lo).toNat

/-- The command of a selected row, its fields read as 30_encoding.md R96 places them. -/
def operands (op : Op) (w : Reg) : Instr :=
  match op with
  | .nop => .nop
  | .absorbInit => .absorbInit
  | .absorbTrits => .absorbTrits (field w 4 0) (w.getLsbD 8)
  | .padRate => .padRate
  | .permute => .permute
  | .lanePattern => .lanePattern (field w 7 0)
  | .increment => .increment (field w 9 0) (field w 19 10)
  | .readCell => .readCell (field w 9 0)
  | .writeCell => .writeCell (field w 9 0)
  | .searchNonce => .searchNonce
  | .searchChecksum => .searchChecksum
  | .cancel => .cancel

/-- Why a command is not decoded. -/
inductive DecodeError where
  /-- An illegal word: no row of the opcode map selects it (30_encoding.md R98). The device answers ERR_OPCODE. -/
  | illegalWord (w : Reg)
  /-- Not 4 bytes: every command is exactly one 32-bit word (30_encoding.md R95). No word is submitted then. -/
  | wrongLength (bytes : Nat)
  deriving DecidableEq, Repr

/-- Decoding, total on all 2^32 words (30_encoding.md R98, R103). -/
def decode (w : Reg) : Except DecodeError Instr :=
  match opcodeMap.find? (fun r => r.selects w) with
  | some r => .ok (operands r.op w)
  | none => .error (.illegalWord w)

/-- The word of four bytes in the window's little-endian order (20_memory.md R72). -/
def wordOfBytes (b0 b1 b2 b3 : Byte) : Reg := b3 ++ b2 ++ b1 ++ b0

/-- The bytes of a word, lowest address first (20_memory.md R72). -/
def bytesOfWord (w : Reg) : List Byte :=
  [w.extractLsb' 0 8, w.extractLsb' 8 8, w.extractLsb' 16 8, w.extractLsb' 24 8]

/-- Decoding of the bytes of a command, lowest address first: total on any bytes. -/
def decodeBytes : List Byte → Except DecodeError Instr
  | [b0, b1, b2, b3] => decode (wordOfBytes b0 b1 b2 b3)
  | bs => .error (.wrongLength bs.length)

/-- The OPCODE byte of a command (30_encoding.md R97). -/
def opcode : Instr → BitVec 8
  | .nop => 0x00#8
  | .absorbInit => 0x01#8
  | .absorbTrits _ _ => 0x02#8
  | .padRate => 0x03#8
  | .permute => 0x04#8
  | .lanePattern _ => 0x05#8
  | .increment _ _ => 0x06#8
  | .readCell _ => 0x07#8
  | .writeCell _ => 0x08#8
  | .searchNonce => 0x10#8
  | .searchChecksum => 0x11#8
  | .cancel => 0x12#8

/-- The OPERAND bits of a command, each field at its bits, every other bit 0 (30_encoding.md R96). A field value that
does not fit its bits is truncated to them: DESIGN CHOICE, the spec gives such a command no word (log entry 21). -/
def operandBits : Instr → BitVec 24
  | .absorbTrits n auto => 0#15 ++ BitVec.ofBool auto ++ 0#3 ++ BitVec.ofNat 5 n
  | .lanePattern off => 0#16 ++ BitVec.ofNat 8 off
  | .increment lo hi => 0#4 ++ BitVec.ofNat 10 hi ++ BitVec.ofNat 10 lo
  | .readCell idx => 0#14 ++ BitVec.ofNat 10 idx
  | .writeCell idx => 0#14 ++ BitVec.ofNat 10 idx
  | .nop => 0#24
  | .absorbInit => 0#24
  | .padRate => 0#24
  | .permute => 0#24
  | .searchNonce => 0#24
  | .searchChecksum => 0#24
  | .cancel => 0#24

/-- The word of a command (30_encoding.md R100). For a command that is not well-formed see operandBits (log entry 21). -/
def encode (i : Instr) : Reg := opcode i ++ operandBits i

/-- The decoder on a row of the opcode table: the low `nbits` bits of `w`, every bit above them 0, laid out as the
four bytes of the word and read back by the decoder. -/
def decodeTableWord (nbits w : Nat) : Option Instr :=
  match decodeBytes (bytesOfWord (BitVec.ofNat 32 (w % 2 ^ nbits))) with
  | .ok i => some i
  | .error _ => none

end Sys2Proof
end

