-- ==== Sys2Proof/Machine/State.lean ====
section
/-! DEFINITION. The state of the device, the reasons a step can stop, and the state after reset (10_state.md). -/

namespace Sys2Proof.Machine

/-- FLAG, the shared search flag (10_state.md R31). -/
inductive Flag where
  | idle
  | running
  | completed
  | cancelled
  | exhausted
  deriving DecidableEq, Repr

/-- The phase of a worker (10_state.md R25, 42_nonce_search.md R181). -/
inductive Phase where
  | off
  | check
  | iterate
  | verify
  | claim
  deriving DecidableEq, Repr

/-- The mode of a search (10_state.md R26, R35). -/
inductive Mode where
  | nonce
  | checksum
  deriving DecidableEq, Repr

/-- The result codes of STATUS.ERR (60_exceptions.md R230). -/
inductive ErrCode where
  | ok
  | opcode
  | busy
  | uninit
  | range
  | badTrit
  | rateFull
  | length
  | partition
  | nonUniform
  deriving DecidableEq, Repr

/-- The private state of one Transform site (40_permutation.md R122): its scratch buffer X (10_state.md R24) and the
sequencing counters that hold while a Transform runs (R27; log entry 19). -/
structure Engine where
  round : Nat
  index : Nat
  cursor : Nat
  scratch : Buffer
  deriving DecidableEq, Repr

/-- The engine the model names at reset, where the spec leaves it unspecified (log entry 6). -/
def Engine.blank : Engine := { scratch := Buffer.blank, round := 0, index := 0, cursor := 0 }

/-- SNAP, the configuration a search runs with (10_state.md R26). -/
structure Snap where
  mode : Mode
  mwm : Nat
  n : Nat
  partLo : Nat
  partHi : Nat
  iterLo : Nat
  iterHi : Nat
  ckBase : Nat
  targetLength : Nat
  sumLength : Nat
  verifyEn : Bool
  deriving DecidableEq, Repr

/-- The snapshot the model names at reset, where the spec leaves it unspecified (log entry 6). -/
def Snap.blank : Snap :=
  { mode := .nonce, mwm := 0, n := 0, partLo := 0, partHi := 0, iterLo := 0, iterHi := 0, ckBase := 0,
    targetLength := 0, sumLength := 0, verifyEn := false }

/-- One request on verify_req (10_state.md R54, 43_checksum.md R205). -/
structure VerifyRequest where
  worker : Nat
  len : Nat
  codes : List Code
  deriving DecidableEq, Repr

/-- The private state of one worker (10_state.md R25) and its verifier slots (20_memory.md R82, 43_checksum.md R205). -/
structure Worker where
  /-- phase_w. -/
  phase : Phase
  /-- ck_w, the current checksum length. -/
  ck : Nat
  /-- hit_w, the lane of the last successful predicate. -/
  hit : Nat
  /-- The request that the verifier has not answered yet. -/
  request : Option VerifyRequest
  /-- The answer that the Verify step has not consumed yet. -/
  response : Option Bool
  /-- S_w, the pre-transform state. -/
  pre : Buffer
  /-- T_w, the buffer that is transformed. -/
  work : Buffer
  /-- The scratch buffer and counters of the worker's Transform. -/
  engine : Engine
  deriving DecidableEq, Repr

/-- A worker after reset: Off, with its request withdrawn (10_state.md R55, 70_reset_and_hazards.md R261). That an answer
which has arrived and is not yet consumed is dropped with it is DESIGN CHOICE (log entry 23); the rest is unspecified
there and named by the model (log entry 6). -/
def Worker.blank : Worker :=
  { pre := Buffer.blank, work := Buffer.blank, engine := Engine.blank, phase := .off, ck := 0, hit := 0,
    request := none, response := none }

/-- One move of one agent (00_scope.md R16). State.inputs lists the moves that come, in order: the interleaving of
the agents as data (log entry 1). -/
inductive Input where
  /-- The host reads `bytes` bytes at the host address `addr` (00_scope.md R15). -/
  | memRead (addr bytes : Nat)
  /-- The host writes `value` to `bytes` bytes at the host address `addr` (00_scope.md R15). -/
  | memWrite (addr bytes : Nat) (value : Reg)
  /-- Worker `w` takes its next step (42_nonce_search.md R181). -/
  | worker (w : Nat)
  /-- The verifier answers worker `w` (43_checksum.md R205). -/
  | verifyRsp (w : Nat) (accept : Bool)
  /-- The platform drives the rst input to `level` (10_state.md R54, 70_reset_and_hazards.md R261). -/
  | rst (level : Bool)
  deriving DecidableEq, Repr

/-- Why a step stops with a fault. -/
inductive Fault where
  /-- BusError (20_memory.md R74): a host access to the window that is not 32 bits wide, not aligned, or to an
  unmapped offset. Raised by the host's accesses; no command raises it. Safe: the device is unchanged and could go on
  (log entry 2). -/
  | busError (offset bytes : Nat)
  deriving DecidableEq, Repr

/-- Why a step is refused. -/
inductive Refusal where
  /-- An instruction without a meaning yet, by its mnemonic. Raised by exec's refused arms alone; there is none.
  Safe. -/
  | notModelled (mnemonic : String)
  /-- A host access outside the device's 256-byte window: it is not this device's, and everything else in the host's
  map belongs to the platform (20_memory.md R71, R87). Raised by the host's accesses. Safe (log entry 3). -/
  | outsideWindow (addr : Nat)
  deriving DecidableEq, Repr

/-- The whole machine (10_state.md R20 to R31, R54). The model's own fields are inputs and freeCount. The large fields
stand last, so that two states that differ in a small one are told apart before any buffer is compared. -/
structure State where
  /-- The instance parameters (00_scope.md R9); no step writes them. -/
  params : Params
  /-- MID_VALID (10_state.md R23). -/
  midValid : Bool
  /-- ABS_POS (10_state.md R28). -/
  absPos : Nat
  /-- ABS_TOTAL (10_state.md R28). -/
  absTotal : Reg
  /-- ABS_BLOCKS (10_state.md R28). -/
  absBlocks : Reg
  /-- FLAG (10_state.md R31). -/
  flag : Flag
  /-- ACTIVE (10_state.md R35). -/
  active : Nat
  /-- STATUS.OVF (10_state.md R35). -/
  ovf : Bool
  /-- STATUS.MODE (10_state.md R35). -/
  mode : Mode
  /-- STATUS.DONE (10_state.md R35). -/
  done : Bool
  /-- STATUS.ERR (10_state.md R35). -/
  err : ErrCode
  /-- CTRL.IRQ_EN (10_state.md R34). -/
  irqEn : Bool
  /-- CTRL.VERIFY_EN (10_state.md R34). -/
  verifyEn : Bool
  /-- DATA0 (10_state.md R38). -/
  data0 : Reg
  /-- MWM[7:0] (10_state.md R39). -/
  mwm : BitVec 8
  /-- NWORKERS[7:0] (10_state.md R40). -/
  nworkers : BitVec 8
  /-- PART_LO (10_state.md R41). -/
  partLo : BitVec 8
  /-- PART_HI (10_state.md R41). -/
  partHi : BitVec 8
  /-- ITER_LO (10_state.md R42). -/
  iterLo : BitVec 8
  /-- ITER_HI (10_state.md R42). -/
  iterHi : BitVec 8
  /-- CK_BASE (10_state.md R43). -/
  ckBase : BitVec 8
  /-- TARGET_LENGTH (10_state.md R43). -/
  targetLength : BitVec 8
  /-- SUM_LENGTH (10_state.md R43). -/
  sumLength : BitVec 8
  /-- CELL_L (10_state.md R30). -/
  cellL : Word
  /-- CELL_H (10_state.md R30). -/
  cellH : Word
  /-- The level of the rst input (10_state.md R54). -/
  rst : Bool
  /-- The read-data port: what the latest completed MemRead returned (10_state.md R54; log entry 14). -/
  readData : Reg
  /-- The counter that free values are read with: the model's own (log entry 12). -/
  freeCount : Nat
  /-- The agents' coming moves, oldest first: the model's own (log entry 1). -/
  inputs : List Input
  /-- SNAP (10_state.md R26). -/
  snap : Snap
  /-- RESULT_LEN (10_state.md R29). -/
  resultLen : Nat
  /-- WIN_LANE (10_state.md R29). -/
  winLane : Nat
  /-- WIN_WORKER (10_state.md R29). -/
  winWorker : Nat
  /-- RESULT[0..255] (10_state.md R29). -/
  result : Vector Code 256
  /-- The engine of PERMUTE's site on MID, with its own scratch buffer (40_permutation.md R122; 10_state.md R24, R27;
  log entry 19). -/
  permuteEngine : Engine
  /-- The engine of the block close's site on MID, with its own scratch buffer (40_permutation.md R122; 10_state.md R24,
  R27; log entry 19). -/
  closeEngine : Engine
  /-- The NW_MAX workers, worker 0 first (10_state.md R25). -/
  workers : List Worker
  /-- MID (10_state.md R22). -/
  mid : Buffer
  deriving DecidableEq, Repr

/-- The device with parameters `p` right after reset (10_state.md R55, 70_reset_and_hazards.md R261). -/
def State.resetOf (p : Params) : State :=
  { params := p
    mid := Buffer.blank
    midValid := false
    permuteEngine := Engine.blank
    closeEngine := Engine.blank
    absPos := 0
    absTotal := 0#32
    absBlocks := 0#32
    workers := List.replicate p.nwMax Worker.blank
    snap := Snap.blank
    flag := .idle
    active := 0
    result := Vector.replicate 256 0b00#2
    resultLen := 0
    winLane := 0
    winWorker := 0
    ovf := false
    mode := .nonce
    done := false
    err := .ok
    irqEn := false
    verifyEn := false
    data0 := 0#32
    mwm := 0#8
    nworkers := 0#8
    partLo := 0#8
    partHi := 0#8
    iterLo := 0#8
    iterHi := 0#8
    ckBase := 0#8
    targetLength := 0#8
    sumLength := 0#8
    cellL := 0#64
    cellH := 0#64
    rst := false
    readData := 0#32
    inputs := []
    freeCount := 0 }

/-- The machine right after reset, for the sample instance (log entry 4). -/
def State.reset : State := State.resetOf Config.sampleParams

end Sys2Proof.Machine
end

