-- ==== Sys2Proof/Machine/Flags.lean ====
section
/-! DEFINITION. The status bits, their encodings and the interrupt output (10_state.md R31, R35, R51;
60_exceptions.md R230, R240). -/

namespace Sys2Proof.Machine

/-- The encoding of FLAG (10_state.md R31). -/
def flagBits : Flag → BitVec 3
  | .idle => 0#3
  | .running => 1#3
  | .completed => 2#3
  | .cancelled => 3#3
  | .exhausted => 4#3

/-- STATUS.MODE of a mode (10_state.md R35). -/
def modeBit : Mode → Bool
  | .nonce => false
  | .checksum => true

/-- The code of STATUS.ERR (60_exceptions.md R230). -/
def errBits : ErrCode → BitVec 8
  | .ok => 0#8
  | .opcode => 1#8
  | .busy => 2#8
  | .uninit => 3#8
  | .range => 4#8
  | .badTrit => 5#8
  | .rateFull => 6#8
  | .length => 7#8
  | .partition => 8#8
  | .nonUniform => 9#8

/-- STATUS.BUSY, derived as ACTIVE > 0 (10_state.md R51). -/
def State.busy (s : State) : Bool := decide (0 < s.active)

/-- irq = STATUS.DONE AND CTRL.IRQ_EN (60_exceptions.md R240). -/
def State.irq (s : State) : Bool := s.done && s.irqEn

/-- The STATUS word (10_state.md R35). -/
def statusWord (s : State) : Reg :=
  BitVec.ofNat 8 s.active ++ errBits s.err ++ 0#7 ++ BitVec.ofBool s.done ++ 0#1 ++ BitVec.ofBool (modeBit s.mode) ++
    BitVec.ofBool s.ovf ++ BitVec.ofBool s.midValid ++ BitVec.ofBool s.busy ++ flagBits s.flag

end Sys2Proof.Machine
end

