-- ==== Sys2Proof/Machine/Operands.lean ====
section
/-! DEFINITION. Trit codes, cells and cell ranges, and the operand forms that commands read (30_encoding.md R90 to
R94, 20_memory.md R77). -/

namespace Sys2Proof.Machine

/-- enc: the lane pair (low, high) of a trit (30_encoding.md R90). -/
def enc : Trit → Bool × Bool
  | .zero => (true, true)
  | .pos => (false, true)
  | .neg => (true, false)

/-- The 2-bit code {high, low} of a trit, in a lane and on the bus (30_encoding.md R90, R92). -/
def codeOf (t : Trit) : Code := BitVec.ofBool (enc t).2 ++ BitVec.ofBool (enc t).1

/-- dec: the trit of a code; 0b00 is no trit (30_encoding.md R90). -/
def dec (c : Code) : Option Trit :=
  if c = 0b11#2 then some .zero
  else if c = 0b10#2 then some .pos
  else if c = 0b01#2 then some .neg
  else none

/-- The word whose every bit is b. -/
def spread (b : Bool) : Word := if b then all1 else all0

/-- bcast: the cell whose every lane holds t (30_encoding.md R91). -/
def bcast (t : Trit) : Cell := ⟨spread (enc t).1, spread (enc t).2⟩

/-- lane(C, b): the lane code {C.H[b], C.L[b]} (30_encoding.md R92). -/
def laneCode (c : Cell) (b : Nat) : Code := BitVec.ofBool (c.H.getLsbD b) ++ BitVec.ofBool (c.L.getLsbD b)

/-- val(C): the trit of a uniform cell; none for a cell that is not uniform (30_encoding.md R93). -/
def val (c : Cell) : Option Trit :=
  if c = bcast .zero then some .zero
  else if c = bcast .pos then some .pos
  else if c = bcast .neg then some .neg
  else none

/-- uniform(C) (30_encoding.md R93). -/
def uniform (c : Cell) : Bool := (val c).isSome

/-- B[i]. Every index the rules use is below 729; beyond it the reader gives the blank cell. -/
def getCell (B : Buffer) (i : Nat) : Cell := B.getD i Cell.blank

/-- B[i] <- c. Every index the rules use is below 729; beyond it nothing is written. -/
def setCell (B : Buffer) (i : Nat) (c : Cell) : Buffer := B.setIfInBounds i c

/-- Every cell of B[lo..hi) is uniform. -/
def uniformRange (B : Buffer) (lo hi : Nat) : Bool :=
  (List.range' lo (hi - lo)).all fun i => uniform (getCell B i)

/-- B[lo..hi) <- c, cell by cell. -/
@[irreducible] def fillRange (B : Buffer) (lo hi : Nat) (c : Cell) : Buffer :=
  (List.range' lo (hi - lo)).foldl (fun B i => setCell B i c) B

/-- Trit slot j of a packed register: bits [2j+1:2j] (20_memory.md R77). -/
def slot (r : Reg) (j : Nat) : Code := r.extractLsb' (2 * j) 2

/-- The trits of slots 0..n-1 of DATA0, none where a consumed slot holds 0b00 (41_absorber.md R132). -/
def slotTrits (r : Reg) (n : Nat) : Option (List Trit) := (List.range n).mapM fun j => dec (slot r j)

/-- RESULTk: slots 16k..16k+15 of the result, slot 16k at bits [1:0] (10_state.md R49). -/
def packResult (result : Vector Code 256) (k : Nat) : Reg :=
  (List.range 16).foldr (fun j acc => (acc <<< 2) ||| (result.getD (16 * k + j) 0b00#2).setWidth 32) 0#32

end Sys2Proof.Machine
end

