-- ==== Sys2Proof/Machine/Ops.lean ====
section
/-! DEFINITION. The operations that the commands and the workers share: command errors, the ternary increment, and
the updates of State. -/

namespace Sys2Proof.Machine

/-- STATUS.ERR <- e. -/
def State.withErr (s : State) (e : ErrCode) : State := { s with err := e }

/-- MID <- B. -/
def State.withMid (s : State) (B : Buffer) : State := { s with mid := B }

/-- The coming moves become `l`. -/
def State.withInputs (s : State) (l : List Input) : State := { s with inputs := l }

/-- The read-data port holds v. -/
def State.withReadData (s : State) (v : Reg) : State := { s with readData := v }

/-- Worker w; a worker that does not exist is Off. -/
def State.worker (s : State) (w : Nat) : Worker := s.workers.getD w Worker.blank

/-- Worker w becomes W; nothing changes where there is no worker w. -/
def State.withWorker (s : State) (w : Nat) (W : Worker) : State := { s with workers := s.workers.set w W }

/-- raise CmdError(code): STATUS.ERR <- code, and every other state element unchanged (60_exceptions.md R231). -/
def raiseCmdError (e : ErrCode) (s : State) : Host.Outcome State Fault Refusal := .next (s.withErr e)

/-- The first failing check of a command gives its error code (60_exceptions.md R236). -/
def firstError : List (Bool × ErrCode) → Option ErrCode
  | [] => none
  | (true, e) :: _ => some e
  | (false, _) :: rest => firstError rest

/-- A command: every check comes before any effect; the first failing check rejects it, and an accepted command ends
with STATUS.ERR <- ERR_OK (60_exceptions.md R231, R236; 20_memory.md R80). -/
def runCommand (checks : List (Bool × ErrCode)) (effect : State → State) (s : State) :
    Host.Outcome State Fault Refusal :=
  match firstError checks with
  | some e => raiseCmdError e s
  | none => .next ((effect s).withErr .ok)

/-- The BUSY and UNINIT checks, in their order (60_exceptions.md R232, R233, R236). -/
def readyChecks (s : State) : List (Bool × ErrCode) := [(s.busy, .busy), (!s.midValid, .uninit)]

/-- The next symbol in the order -1 < 0 < +1, none at the maximum (42_nonce_search.md R151). -/
def nextSymbol : Trit → Option Trit
  | .neg => some .zero
  | .zero => some .pos
  | .pos => none

/-- What Inc writes where a cell is not uniform: the free value of log entry 9 (42_nonce_search.md R153). -/
def afterNonDigit (c : Cell) : Cell := ⟨Config.nonDigitLow c, Config.nonDigitHigh c⟩

/-- Inc over the `count` cells from cell i on, with a carry coming in: (overflow, new buffer)
(42_nonce_search.md R150). A cell that is not uniform takes the free value of log entry 9. -/
def incCells : (count i : Nat) → Buffer → Bool × Buffer
  | 0, _, B => (true, B)
  | count + 1, i, B =>
    match val (getCell B i) with
    | some t =>
      match nextSymbol t with
      | none => incCells count (i + 1) (setCell B i (bcast .neg))
      | some t' => (false, setCell B i (bcast t'))
    | none =>
      if Config.nonDigitCarry (getCell B i) then incCells count (i + 1) (setCell B i (afterNonDigit (getCell B i)))
      else (false, setCell B i (afterNonDigit (getCell B i)))

/-- Inc(B, lo, hi): (overflow, new buffer) (42_nonce_search.md R150, R152). -/
@[irreducible] def inc (B : Buffer) (lo hi : Nat) : Bool × Buffer := incCells (hi - lo) lo B

/-- `k` Incs of one range, their overflow ignored (42_nonce_search.md R180). -/
def incTimes : (k : Nat) → Buffer → (lo hi : Nat) → Buffer
  | 0, B, _, _ => B
  | k + 1, B, lo, hi => incTimes k (inc B lo hi).2 lo hi

/-- The lane codes of lane b over B[base..base+len), first cell first (42_nonce_search.md R160, 43_checksum.md R194). -/
def laneCodes (B : Buffer) (base len b : Nat) : List Code :=
  (List.range len).map fun k => laneCode (getCell B (base + k)) b

/-- RESULT[0..] <- codes, first code at slot 0; the other slots keep their value (42_nonce_search.md R184). -/
def writeResult (result : Vector Code 256) (codes : List Code) : Vector Code 256 :=
  codes.zipIdx.foldl (fun r (c, k) => r.setIfInBounds k c) result

end Sys2Proof.Machine
end

