-- ==== Sys2Proof/Machine/Transform.lean ====
section
/-! DEFINITION. The Ternary Transform, as 40_permutation.md R110 to R114 write it. -/

namespace Sys2Proof.Machine

/-- The cursor's advance (40_permutation.md R112). -/
def advance (c : Nat) : Nat := if c < 365 then c + Config.strideUp else c - Config.strideDown

/-- delta of the cell update, from X[c] = (alpha, beta) and X[c'] = (lambda, gamma) (40_permutation.md R113). -/
def delta (x y : Cell) : Word := (x.L ||| ~~~ y.H) &&& (y.L ^^^ x.H)

/-- The cell update (40_permutation.md R113). -/
def cellUpdate (x y : Cell) : Cell := ⟨~~~ delta x y, (x.L ^^^ y.H) ||| delta x y⟩

/-- The cells i, i+1, … of one round, `count` of them, from the snapshot X with the cursor at c: the buffer and the
cursor after them (40_permutation.md R111, R112, R114). -/
def roundCells (X : Buffer) : (count i c : Nat) → Buffer → Buffer × Nat
  | 0, _, c, B => (B, c)
  | count + 1, i, c, B =>
    roundCells X count (i + 1) (advance c) (setCell B i (cellUpdate (getCell X c) (getCell X (advance c))))

/-- One round: X <- B, then every cell of B from X alone (40_permutation.md R111). -/
def transformRound (c : Nat) (B : Buffer) : Buffer × Nat := roundCells B Config.stateLength 0 c B

/-- `count` rounds from round r on, in an engine: the engine holds the snapshot of the round, its number, the last
output cell and the cursor (40_permutation.md R114; 10_state.md R24, R27; log entry 7). -/
def transformRounds : (count r : Nat) → Engine → Buffer → Engine × Buffer
  | 0, _, e, B => (e, B)
  | count + 1, r, e, B =>
    transformRounds count (r + 1)
      { scratch := B, round := r, index := Config.stateLength - 1, cursor := (transformRound e.cursor B).2 }
      (transformRound e.cursor B).1

/-- A Transform of B in the engine e: the cursor starts at 0 (40_permutation.md R112, R114). -/
@[irreducible] def runTransform (e : Engine) (B : Buffer) : Engine × Buffer :=
  transformRounds Config.rounds 0 { e with cursor := 0 } B

/-- Transform(B), the function (40_permutation.md R110, R120). -/
def transform (B : Buffer) : Buffer := (runTransform Engine.blank B).2

end Sys2Proof.Machine
end

