-- ==== Sys2Proof/Machine/Absorber.lean ====
section
/-! DEFINITION. PERMUTE (40_permutation.md R121) and the absorber commands (41_absorber.md). -/

namespace Sys2Proof.Machine

/-- A block that is transformed to B: MID <- B, ABS_POS <- 0, ABS_BLOCKS + 1 (40_permutation.md R121, 41_absorber.md
R133). -/
def finishBlock (B : Buffer) (s : State) : State :=
  { s with mid := B, absPos := 0, absBlocks := s.absBlocks + 1#32 }

/-- CloseBlock: transform MID in the block close's own engine, ABS_POS <- 0, ABS_BLOCKS + 1 (41_absorber.md R133,
40_permutation.md R122; log entry 19). -/
def closeBlock (s : State) : State :=
  { finishBlock (runTransform s.closeEngine s.mid).2 s with closeEngine := (runTransform s.closeEngine s.mid).1 }

/-- PERMUTE's effect: transform MID in PERMUTE's own engine, ABS_POS <- 0, ABS_BLOCKS + 1 (40_permutation.md R121, R122;
log entry 19). -/
def permuteMid (s : State) : State :=
  { finishBlock (runTransform s.permuteEngine s.mid).2 s with permuteEngine := (runTransform s.permuteEngine s.mid).1 }

/-- PERMUTE (40_permutation.md R121). -/
def execPermute (s : State) : Host.Outcome State Fault Refusal := runCommand (readyChecks s) permuteMid s

/-- ABSORB_INIT's effect: MID all trit 0, MID_VALID, the counters 0 (41_absorber.md R131). -/
def initMid (s : State) : State :=
  { s with
    mid := fillRange s.mid 0 Config.stateLength (bcast .zero)
    midValid := true
    absPos := 0
    absTotal := 0#32
    absBlocks := 0#32 }

/-- ABSORB_INIT: it checks BUSY, not MID_VALID (41_absorber.md R131). -/
def execAbsorbInit (s : State) : Host.Outcome State Fault Refusal := runCommand [(s.busy, .busy)] initMid s

/-- MID[ABS_POS] <- bcast(t), ABS_POS + 1 (41_absorber.md R132). -/
def writeTrit (t : Trit) (s : State) : State :=
  { s with mid := setCell s.mid s.absPos (bcast t), absPos := s.absPos + 1 }

/-- Close the block when the rate is full (41_absorber.md R132). -/
def closeIfFull (s : State) : State := if s.absPos = Config.hashLength then closeBlock s else s

/-- One trit of ABSORB_TRITS: a pending full block is closed first, and with A = 1 a block that this trit fills is
closed at once (41_absorber.md R132). -/
def absorbTrit (auto : Bool) (s : State) (t : Trit) : State :=
  if auto then closeIfFull (writeTrit t (closeIfFull s)) else writeTrit t (closeIfFull s)

/-- The trits in order, then ABS_TOTAL + N (41_absorber.md R132). -/
def absorbAll (auto : Bool) (ts : List Trit) (s : State) : State :=
  { ts.foldl (absorbTrit auto) s with absTotal := s.absTotal + BitVec.ofNat 32 ts.length }

/-- The checks of ABSORB_TRITS in their order (41_absorber.md R132). -/
def absorbChecks (n : Nat) (auto : Bool) (s : State) : List (Bool × ErrCode) :=
  readyChecks s ++
    [(decide (n = 0) || decide (16 < n), .range),
     ((slotTrits s.data0 n).isNone, .badTrit),
     (!auto && decide (Config.hashLength < s.absPos + n), .rateFull)]

/-- ABSORB_TRITS N, A, with the trits of DATA0 slots 0..N-1 (41_absorber.md R132). -/
def execAbsorbTrits (n : Nat) (auto : Bool) (s : State) : Host.Outcome State Fault Refusal :=
  runCommand (absorbChecks n auto s) (absorbAll auto ((slotTrits s.data0 n).getD [])) s

/-- PAD_RATE's effect: cells ABS_POS..242 <- trit 0, ABS_POS <- 243 (41_absorber.md R134). -/
def padRate (s : State) : State :=
  { s with mid := fillRange s.mid s.absPos Config.hashLength (bcast .zero), absPos := Config.hashLength }

/-- PAD_RATE (41_absorber.md R134). -/
def execPadRate (s : State) : Host.Outcome State Fault Refusal := runCommand (readyChecks s) padRate s

/-- LANE_PATTERN's effect: MID[off + k] <- LANE_PATTERN[k], k = 0..3 (41_absorber.md R137). -/
def writePattern (off : Nat) (s : State) : State :=
  s.withMid ((List.range 4).foldl (fun B k => setCell B (off + k) (s.params.lanePattern.getD k Cell.blank)) s.mid)

/-- LANE_PATTERN OFF (41_absorber.md R137). -/
def execLanePattern (off : Nat) (s : State) : Host.Outcome State Fault Refusal :=
  runCommand (readyChecks s ++ [(decide (239 < off), .range)]) (writePattern off) s

end Sys2Proof.Machine
end

