-- ==== Sys2Proof/Machine/HostAccess.lean ====
section
/-! DEFINITION. The host access commands NOP, READ_CELL, WRITE_CELL (44_host_access.md). -/

namespace Sys2Proof.Machine

/-- NOP: STATUS.ERR <- 0 and nothing else, in every state (44_host_access.md R220). -/
def execNop (s : State) : Host.Outcome State Fault Refusal := runCommand [] id s

/-- CELL_L, CELL_H <- MID[idx] (44_host_access.md R221). -/
def loadStaging (idx : Nat) (s : State) : State :=
  { s with cellL := (getCell s.mid idx).L, cellH := (getCell s.mid idx).H }

/-- READ_CELL IDX (44_host_access.md R221). -/
def execReadCell (idx : Nat) (s : State) : Host.Outcome State Fault Refusal :=
  runCommand (readyChecks s ++ [(decide (728 < idx), .range)]) (loadStaging idx) s

/-- MID[idx] <- (CELL_L, CELL_H) (44_host_access.md R222). -/
def storeStaging (idx : Nat) (s : State) : State := s.withMid (setCell s.mid idx ⟨s.cellL, s.cellH⟩)

/-- WRITE_CELL IDX (44_host_access.md R222). -/
def execWriteCell (idx : Nat) (s : State) : Host.Outcome State Fault Refusal :=
  runCommand (readyChecks s ++ [(decide (728 < idx), .range)]) (storeStaging idx) s

end Sys2Proof.Machine
end

