-- ==== Sys2Proof/Machine/Search.lean ====
section
/-! DEFINITION. INCREMENT, the search commands with their checks and the start of a search, and CANCEL
(42_nonce_search.md R155, R170 to R180, R186; 43_checksum.md R190 to R193). -/

namespace Sys2Proof.Machine

/-- INCREMENT's effect: Inc on MID, STATUS.OVF <- its overflow (42_nonce_search.md R155). -/
def incrementMid (lo hi : Nat) (s : State) : State :=
  { s with mid := (inc s.mid lo hi).2, ovf := (inc s.mid lo hi).1 }

/-- INCREMENT LO, HI (42_nonce_search.md R155). -/
def execIncrement (lo hi : Nat) (s : State) : Host.Outcome State Fault Refusal :=
  runCommand
    (readyChecks s ++
      [(decide (hi < lo) || decide (729 < hi), .range), (!uniformRange s.mid lo hi, .nonUniform)])
    (incrementMid lo hi) s

/-- ResolveWorkers: none where NWORKERS > NW_MAX (42_nonce_search.md R173). -/
def resolveWorkers (s : State) : Option Nat :=
  if s.nworkers = 0#8 then some (max 1 (s.params.nwMax - 1))
  else if s.params.nwMax < s.nworkers.toNat then none
  else some s.nworkers.toNat

/-- CheckNonceLayout holds (42_nonce_search.md R174). -/
def nonceLayout (s : State) : Bool :=
  decide (s.partLo.toNat ≤ s.partHi.toNat) && decide (s.partHi.toNat ≤ Config.hashLength) &&
  decide (s.iterLo.toNat < s.iterHi.toNat) && decide (s.iterHi.toNat ≤ Config.hashLength)

/-- The partition is not empty and overlaps the iteration range (42_nonce_search.md R175). -/
def rangesOverlap (s : State) : Bool :=
  decide (s.partLo.toNat < s.partHi.toNat) && decide (s.partLo.toNat < s.iterHi.toNat) &&
  decide (s.iterLo.toNat < s.partHi.toNat)

/-- The partition range has fewer than N values (42_nonce_search.md R177). -/
def partitionTooSmall (n : Nat) (s : State) : Bool := decide (3 ^ (s.partHi.toNat - s.partLo.toNat) < n)

/-- CheckChecksumLayout holds (43_checksum.md R192). -/
def checksumLayout (s : State) : Bool :=
  decide (1 ≤ s.targetLength.toNat) && decide (s.ckBase.toNat + s.targetLength.toNat ≤ Config.hashLength) &&
  decide (s.ckBase.toNat ≤ s.partLo.toNat) && decide (s.partLo.toNat ≤ s.partHi.toNat) &&
  decide (s.partHi.toNat ≤ s.iterLo.toNat) && decide (s.iterLo.toNat < s.ckBase.toNat + s.targetLength.toNat) &&
  decide (s.sumLength.toNat ≤ Config.hashLength)

/-- The checks of SEARCH_NONCE in the order of 42_nonce_search.md R170, for N workers. -/
def nonceChecks (s : State) : List (Bool × ErrCode) :=
  readyChecks s ++
    [(decide (Config.hashLength < s.mwm.toNat), .range),
     ((resolveWorkers s).isNone, .range),
     (!nonceLayout s, .range),
     (rangesOverlap s, .range),
     (decide (s.absTotal.toNat ≠ s.params.transactionLength), .length),
     (partitionTooSmall ((resolveWorkers s).getD 0) s, .partition),
     (!uniformRange s.mid s.partLo.toNat s.partHi.toNat || !uniformRange s.mid s.iterLo.toNat s.iterHi.toNat,
       .nonUniform)]

/-- The checks of SEARCH_CHECKSUM in the order of 43_checksum.md R190. -/
def checksumChecks (s : State) : List (Bool × ErrCode) :=
  readyChecks s ++
    [((resolveWorkers s).isNone, .range),
     (!checksumLayout s, .range),
     (partitionTooSmall ((resolveWorkers s).getD 0) s, .partition),
     (!uniformRange s.mid s.partLo.toNat s.partHi.toNat || !uniformRange s.mid s.iterLo.toNat Config.hashLength,
       .nonUniform)]

/-- SNAP of a search that starts (42_nonce_search.md R179, 10_state.md R26). -/
def takeSnap (m : Mode) (n : Nat) (s : State) : Snap :=
  { mode := m, mwm := s.mwm.toNat, n := n, partLo := s.partLo.toNat, partHi := s.partHi.toNat,
    iterLo := s.iterLo.toNat, iterHi := s.iterHi.toNat, ckBase := s.ckBase.toNat,
    targetLength := s.targetLength.toNat, sumLength := s.sumLength.toNat, verifyEn := s.verifyEn }

/-- Worker w at spawn: a copy of MID advanced w times over the partition range, ck, phase Check
(42_nonce_search.md R180). -/
def spawnWorker (snap : Snap) (mid : Buffer) (w : Nat) (W : Worker) : Worker :=
  { W with pre := incTimes w mid snap.partLo snap.partHi, ck := snap.targetLength, phase := .check }

/-- Spawn(N): workers below N start, the others stay as they are (42_nonce_search.md R180). -/
def spawn (n : Nat) (snap : Snap) (mid : Buffer) (ws : List Worker) : List Worker :=
  ws.mapIdx fun w W => if w < n then spawnWorker snap mid w W else W

/-- StartSearch(mode, N), one atomic step (42_nonce_search.md R179). -/
def startSearch (m : Mode) (n : Nat) (s : State) : State :=
  { s with
    snap := takeSnap m n s
    result := Vector.replicate 256 0b00#2
    resultLen := 0
    winLane := 0
    winWorker := 0
    mode := m
    done := false
    flag := .running
    workers := spawn n (takeSnap m n s) s.mid s.workers
    active := n }

/-- SEARCH_NONCE (42_nonce_search.md R170). -/
def execSearchNonce (s : State) : Host.Outcome State Fault Refusal :=
  runCommand (nonceChecks s) (startSearch .nonce ((resolveWorkers s).getD 0)) s

/-- SEARCH_CHECKSUM (43_checksum.md R190). -/
def execSearchChecksum (s : State) : Host.Outcome State Fault Refusal :=
  runCommand (checksumChecks s) (startSearch .checksum ((resolveWorkers s).getD 0)) s

/-- CANCEL's effect: FLAG leaves Running, and nothing else happens (42_nonce_search.md R186). -/
def cancelSearch (s : State) : State := { s with flag := if s.flag = .running then .cancelled else s.flag }

/-- CANCEL, accepted in every state (42_nonce_search.md R186). -/
def execCancel (s : State) : Host.Outcome State Fault Refusal := runCommand [] cancelSearch s

end Sys2Proof.Machine
end

