-- ==== Sys2Proof/Machine/Dispatch.lean ====
section
/-! DEFINITION. The meaning of each command, one arm per constructor of Instr. -/

namespace Sys2Proof.Machine

def exec (i : Instr) (s : State) : Host.Outcome State Fault Refusal :=
  match i with
  | .nop => Sys2Proof.Machine.execNop s
  | .absorbInit => Sys2Proof.Machine.execAbsorbInit s
  | .absorbTrits n auto => Sys2Proof.Machine.execAbsorbTrits n auto s
  | .padRate => Sys2Proof.Machine.execPadRate s
  | .permute => Sys2Proof.Machine.execPermute s
  | .lanePattern off => Sys2Proof.Machine.execLanePattern off s
  | .increment lo hi => Sys2Proof.Machine.execIncrement lo hi s
  | .readCell idx => Sys2Proof.Machine.execReadCell idx s
  | .writeCell idx => Sys2Proof.Machine.execWriteCell idx s
  | .searchNonce => Sys2Proof.Machine.execSearchNonce s
  | .searchChecksum => Sys2Proof.Machine.execSearchChecksum s
  | .cancel => Sys2Proof.Machine.execCancel s

end Sys2Proof.Machine
end

