-- ==== Sys2Proof/Machine/Window.lean ====
section
/-! DEFINITION. The register window: the map, reads and writes (10_state.md R32 to R50; 20_memory.md R70 to R79). -/

namespace Sys2Proof.Machine

/-- The registers of the map (10_state.md R32). -/
inductive Register where
  | caps | ctrl | status | cmd | data0 | mwm | nworkers | part | iter | ckcfg | absPos | absTotal | absBlocks
  | resultInfo | cellLowLo | cellLowHi | cellHighLo | cellHighHi
  | result (k : Fin 16)
  deriving DecidableEq, Repr

/-- The offset of a register (10_state.md R32). -/
def registerOffset : Register → Nat
  | .caps => 0x00
  | .ctrl => 0x04
  | .status => 0x08
  | .cmd => 0x0C
  | .data0 => 0x10
  | .mwm => 0x14
  | .nworkers => 0x18
  | .part => 0x1C
  | .iter => 0x20
  | .ckcfg => 0x24
  | .absPos => 0x28
  | .absTotal => 0x2C
  | .absBlocks => 0x30
  | .resultInfo => 0x34
  | .cellLowLo => 0x38
  | .cellLowHi => 0x3C
  | .cellHighLo => 0x40
  | .cellHighHi => 0x44
  | .result k => 0x80 + 4 * k.val

/-- Every register of the map, in the order of their offsets (10_state.md R32). -/
def registerMap : List Register :=
  [.caps, .ctrl, .status, .cmd, .data0, .mwm, .nworkers, .part, .iter, .ckcfg, .absPos, .absTotal, .absBlocks,
   .resultInfo, .cellLowLo, .cellLowHi, .cellHighLo, .cellHighHi] ++ (List.finRange 16).map .result

/-- The register at an offset; none where the offset is unmapped (10_state.md R32, 20_memory.md R74). -/
def registerAt (offset : Nat) : Option Register := registerMap.find? fun r => registerOffset r == offset

/-- The offset of a host address in the window at `base`, none outside it (20_memory.md R71). -/
def windowOffset (base addr : Nat) : Option Nat :=
  if base ≤ addr ∧ addr < base + 256 then some (addr - base) else none

/-- What a host access reaches (20_memory.md R71, R73, R74). -/
inductive Target where
  | register (r : Register)
  | busError (offset bytes : Nat)
  | outside (addr : Nat)
  deriving DecidableEq, Repr

/-- The access is 32 bits wide, aligned and mapped, or it ends in BusError; outside the window it is not the device's
(20_memory.md R71, R73, R74). -/
def accessTarget (base addr bytes : Nat) : Target :=
  match windowOffset base addr with
  | none => .outside addr
  | some offset =>
    if bytes = 4 ∧ addr % 4 = 0 then
      match registerAt offset with
      | some r => .register r
      | none => .busError offset bytes
    else .busError offset bytes

/-- CAPS: NW_MAX in [7:0], TXLEN in [31:16] (10_state.md R33). -/
def capsWord (p : Params) : Reg := BitVec.ofNat 16 p.transactionLength ++ 0#8 ++ BitVec.ofNat 8 p.nwMax

/-- RESULT_INFO (10_state.md R47). -/
def resultInfoWord (s : State) : Reg :=
  0#8 ++ BitVec.ofNat 8 s.resultLen ++ BitVec.ofNat 8 s.winWorker ++ 0#2 ++ BitVec.ofNat 6 s.winLane

/-- What a MemRead of a register returns (10_state.md R33 to R49). -/
def readRegister (s : State) : Register → Reg
  | .caps => capsWord s.params
  | .ctrl => 0#30 ++ BitVec.ofBool s.verifyEn ++ BitVec.ofBool s.irqEn
  | .status => statusWord s
  | .cmd => 0#32
  | .data0 => s.data0
  | .mwm => s.mwm.setWidth 32
  | .nworkers => s.nworkers.setWidth 32
  | .part => 0#16 ++ s.partHi ++ s.partLo
  | .iter => 0#16 ++ s.iterHi ++ s.iterLo
  | .ckcfg => 0#8 ++ s.sumLength ++ s.targetLength ++ s.ckBase
  | .absPos => (BitVec.ofNat 8 s.absPos).setWidth 32
  | .absTotal => s.absTotal
  | .absBlocks => s.absBlocks
  | .resultInfo => resultInfoWord s
  | .cellLowLo => s.cellL.extractLsb' 0 32
  | .cellLowHi => s.cellL.extractLsb' 32 32
  | .cellHighLo => s.cellH.extractLsb' 0 32
  | .cellHighHi => s.cellH.extractLsb' 32 32
  | .result k => packResult s.result k.val

/-- What a MemWrite of a register other than CMD does: configuration registers store with reserved bits dropped,
STATUS bit 8 clears DONE, the others ignore it (10_state.md R34 to R50, 20_memory.md R79). CMD is a command
(10_state.md R37): its write runs through submitCommand and stores nothing here. -/
def writeRegister (r : Register) (v : Reg) (s : State) : State :=
  match r with
  | .ctrl => { s with irqEn := v.getLsbD 0, verifyEn := v.getLsbD 1 }
  | .status => { s with done := s.done && !v.getLsbD 8 }
  | .data0 => { s with data0 := v }
  | .mwm => { s with mwm := v.extractLsb' 0 8 }
  | .nworkers => { s with nworkers := v.extractLsb' 0 8 }
  | .part => { s with partLo := v.extractLsb' 0 8, partHi := v.extractLsb' 8 8 }
  | .iter => { s with iterLo := v.extractLsb' 0 8, iterHi := v.extractLsb' 8 8 }
  | .ckcfg =>
    { s with ckBase := v.extractLsb' 0 8, targetLength := v.extractLsb' 8 8, sumLength := v.extractLsb' 16 8 }
  | .cellLowLo => { s with cellL := s.cellL.extractLsb' 32 32 ++ v }
  | .cellLowHi => { s with cellL := v ++ s.cellL.extractLsb' 0 32 }
  | .cellHighLo => { s with cellH := s.cellH.extractLsb' 32 32 ++ v }
  | .cellHighHi => { s with cellH := v ++ s.cellH.extractLsb' 0 32 }
  | .caps => s
  | .cmd => s
  | .absPos => s
  | .absTotal => s
  | .absBlocks => s
  | .resultInfo => s
  | .result _ => s

end Sys2Proof.Machine
end

