-- ==== Sys2Proof/Machine/Predicates.lean ====
section
/-! DEFINITION. The search predicates: the difficulty mask and the balance mask (42_nonce_search.md R156 to R159,
43_checksum.md R199, R200). -/

namespace Sys2Proof.Machine

/-- NonceMask(T, MWM): bit b is 1 iff lane b's pairs are equal at every cell 243-MWM..242 (42_nonce_search.md R156). -/
def nonceMask (T : Buffer) (mwm : Nat) : Word :=
  (List.range' (Config.hashLength - mwm) (Config.hashLength - (Config.hashLength - mwm))).foldl
    (fun m i => m &&& ~~~ ((getCell T i).L ^^^ (getCell T i).H)) all1

/-- VL_b: the low bits of lane b over cells 0..sl-1 (43_checksum.md R199). -/
def lowVector (T : Buffer) (sl b : Nat) : List Bool := (List.range sl).map fun i => (getCell T i).L.getLsbD b

/-- VH_b: the high bits of lane b over cells 0..sl-1 (43_checksum.md R199). -/
def highVector (T : Buffer) (sl b : Nat) : List Bool := (List.range sl).map fun i => (getCell T i).H.getLsbD b

/-- The number of set bits of a bit-vector (00_scope.md R14). -/
def popcount (v : List Bool) : Nat := v.count true

/-- Lane b is balanced over the window (43_checksum.md R199). -/
def laneBalanced (T : Buffer) (sl b : Nat) : Bool := popcount (lowVector T sl b) == popcount (highVector T sl b)

/-- BalanceMask(T, SL): bit b is 1 iff lane b is balanced (43_checksum.md R199). -/
def balanceMask (T : Buffer) (sl : Nat) : Word := BitVec.ofFnLE fun b : Fin 64 => laneBalanced T sl b.val

/-- ctz(m): the index of the lowest set bit, read for m ≠ 0 only (00_scope.md R14, 42_nonce_search.md R159). -/
def lowestLane (m : Word) : Nat := ((List.range Config.lanes).find? fun b => m.getLsbD b).getD 0

end Sys2Proof.Machine
end

