-- ==== Sys2Proof/Machine/Workers.lean ====
section
/-! DEFINITION. The worker state machine: Check, Iterate, Verify, Claim, Stop (42_nonce_search.md R181 to R185,
43_checksum.md R196 to R207), and the verifier's answer. -/

namespace Sys2Proof.Machine

/-- Stop_w: the worker is Off, ACTIVE - 1; the last one to stop ends the search (42_nonce_search.md R185). -/
def stopWorker (w : Nat) (s : State) : State :=
  { s.withWorker w { s.worker w with phase := .off } with
    active := s.active - 1
    flag := if s.active - 1 = 0 ∧ s.flag = .running then .exhausted else s.flag
    done := if s.active - 1 = 0 then true else s.done }

/-- phase_w <- p. -/
def setPhase (w : Nat) (p : Phase) (s : State) : State := s.withWorker w { s.worker w with phase := p }

/-- Check_w (42_nonce_search.md R182). -/
def checkStep (w : Nat) (s : State) : State :=
  if s.flag = .running then setPhase w .iterate s else stopWorker w s

/-- The worker with its pre-transform state advanced to S, a copy of it transformed, and the mask's outcome: the
lowest lane of m is the hit, and a hit leads to the phase `onHit`, no hit to Check (42_nonce_search.md R183). -/
def afterTest (W : Worker) (S : Buffer) (mask : Buffer → Word) (onHit : Phase) : Worker :=
  let (e, T) := runTransform W.engine S
  if mask T = 0#64 then { W with pre := S, work := T, engine := e, phase := .check }
  else { W with pre := S, work := T, engine := e, hit := lowestLane (mask T), phase := onHit }

/-- Iterate_w in nonce mode; the overflow of the Inc is ignored (42_nonce_search.md R165, R183). -/
def iterateNonce (snap : Snap) (W : Worker) : Worker :=
  afterTest W (inc W.pre snap.iterLo snap.iterHi).2 (fun T => nonceMask T snap.mwm) .claim

/-- ck_w after an overflow below the ceiling: three more cells, at most up to cell 242 (43_checksum.md R196). -/
def widen (snap : Snap) (ck : Nat) : Nat := min (ck + Config.ckStep) (Config.hashLength - snap.ckBase)

/-- The candidate of the worker's hit lane over its checksum region (43_checksum.md R194, R205). -/
def candidate (snap : Snap) (W : Worker) : List Code := laneCodes W.pre snap.ckBase W.ck W.hit

/-- SendVerify: the request goes out when a hit leads to Verify (43_checksum.md R197, R205). -/
def sendVerify (snap : Snap) (w : Nat) (W : Worker) : Worker :=
  if W.phase = .verify then { W with request := some { worker := w, len := W.ck, codes := candidate snap W } } else W

/-- The overflow of the iteration Inc of a checksum worker over its present range (43_checksum.md R196, R197). -/
def checksumInc (snap : Snap) (W : Worker) : Bool × Buffer := inc W.pre snap.iterLo (snap.ckBase + W.ck)

/-- Iterate_w in checksum mode, for a worker that is not exhausted (43_checksum.md R197). -/
def iterateChecksum (snap : Snap) (w : Nat) (W : Worker) : Worker :=
  sendVerify snap w
    (afterTest { W with ck := if (checksumInc snap W).1 then widen snap W.ck else W.ck } (checksumInc snap W).2
      (fun T => balanceMask T snap.sumLength) (if snap.verifyEn then .verify else .claim))

/-- The worker overflows at the ceiling CK_BASE + ck_w = 243 (43_checksum.md R196, R198). -/
def exhausts (snap : Snap) (W : Worker) : Bool :=
  (checksumInc snap W).1 && decide (snap.ckBase + W.ck = Config.hashLength)

/-- Iterate_w (42_nonce_search.md R183, 43_checksum.md R197). An exhausted worker keeps its wrapped state and stops in
the same step (43_checksum.md R198). -/
def iterateStep (w : Nat) (s : State) : State :=
  match s.snap.mode with
  | .nonce => s.withWorker w (iterateNonce s.snap (s.worker w))
  | .checksum =>
    if exhausts s.snap (s.worker w) then
      stopWorker w (s.withWorker w { s.worker w with pre := (checksumInc s.snap (s.worker w)).2 })
    else s.withWorker w (iterateChecksum s.snap w (s.worker w))

/-- Verify_w: enabled only once the answer is present (43_checksum.md R205, R207). -/
def verifyStep (w : Nat) (s : State) : State :=
  match (s.worker w).response with
  | none => s
  | some accept =>
    s.withWorker w { s.worker w with response := none, phase := if accept then .claim else .check }

/-- What a winning Claim writes to RESULT: the whole rate in nonce mode, the checksum region in checksum mode
(42_nonce_search.md R160, R184; 43_checksum.md R200). -/
def resultCodes (snap : Snap) (W : Worker) : List Code :=
  match snap.mode with
  | .nonce => laneCodes W.pre 0 Config.hashLength W.hit
  | .checksum => candidate snap W

/-- The win of worker w: the result and FLAG <- Completed in one step (42_nonce_search.md R184, 20_memory.md R83). -/
def winSearch (w : Nat) (s : State) : State :=
  { s with
    flag := .completed
    result := writeResult s.result (resultCodes s.snap (s.worker w))
    resultLen := (resultCodes s.snap (s.worker w)).length
    winLane := (s.worker w).hit
    winWorker := w }

/-- Claim_w: only a claim that finds FLAG Running wins; every claim stops the worker (42_nonce_search.md R184). -/
def claimStep (w : Nat) (s : State) : State :=
  stopWorker w (if s.flag = .running then winSearch w s else s)

/-- The next step of worker w by its phase; a worker that is Off takes none (42_nonce_search.md R181). -/
def workerStep (w : Nat) (s : State) : State :=
  match (s.worker w).phase with
  | .off => s
  | .check => checkStep w s
  | .iterate => iterateStep w s
  | .verify => verifyStep w s
  | .claim => claimStep w s

/-- verify_rsp for worker w: taken while the worker is in Verify with its request unanswered, ignored otherwise
(43_checksum.md R205, R206; log entry 11). It names a worker, not a request, so an answer to a request that reset
withdrew is taken as the answer to the worker's new request, where it has one: DESIGN CHOICE (log entry 22). -/
def takeVerifyRsp (w : Nat) (accept : Bool) (s : State) : State :=
  if (s.worker w).phase = .verify ∧ (s.worker w).request.isSome then
    s.withWorker w { s.worker w with request := none, response := some accept }
  else s

/-- verify_req: the requests that stand on the port, worker 0's first (10_state.md R54). -/
def State.verifyReq (s : State) : List VerifyRequest := s.workers.filterMap fun W => W.request

/-- The verifier's move for worker w when the environment's function is `verify`: accept = VERIFY(candidate)
(00_scope.md R9, 43_checksum.md R205; log entry 10). The function takes the request's codes as they stand, also a code
0b00, which is no trit: DESIGN CHOICE (log entry 20). -/
def verifierMove (verify : List Code → Bool) (w : Nat) (s : State) : Option Input :=
  (s.worker w).request.map fun r => .verifyRsp w (verify r.codes)

end Sys2Proof.Machine
end

