-- ==== Sys2Proof/Machine/Agents.lean ====
section
/-! DEFINITION. What each agent's move does: the host's accesses, a worker's step, the verifier's answer, and rst
(00_scope.md R16, 20_memory.md R78 to R82, 70_reset_and_hazards.md R261). -/

namespace Sys2Proof.Machine

/-- A MemWrite to CMD: the word is one command, or it is illegal and gives ERR_OPCODE (10_state.md R37,
30_encoding.md R98). -/
def submitCommand (w : Reg) (s : State) : Host.Outcome State Fault Refusal :=
  match decodeBytes (bytesOfWord w) with
  | .ok i => exec i s
  | .error _ => raiseCmdError .opcode s

/-- A host read, rst not held: the register's value on the read-data port, BusError, or an access that is not the
device's (20_memory.md R71, R74, R78). -/
def hostRead (addr bytes : Nat) (s : State) : Host.Outcome State Fault Refusal :=
  match accessTarget s.params.tspBase addr bytes with
  | .register r => .next (s.withReadData (readRegister s r))
  | .busError offset n => .fault (.busError offset n)
  | .outside a => .refused (.outsideWindow a)

/-- A host write, rst not held (20_memory.md R71, R74, R79). -/
def hostWrite (addr bytes : Nat) (v : Reg) (s : State) : Host.Outcome State Fault Refusal :=
  match accessTarget s.params.tspBase addr bytes with
  | .register .cmd => submitCommand v s
  | .register r => .next (writeRegister r v s)
  | .busError offset n => .fault (.busError offset n)
  | .outside a => .refused (.outsideWindow a)

/-- A host read while rst is held: the device does not accept it, and what it returns is a free value
(70_reset_and_hazards.md R261, 93_implementation_defined.md U16; log entry 12). -/
def readHeld (s : State) : State :=
  { s with readData := Config.readWhileReset s.freeCount, freeCount := s.freeCount + 1 }

/-- Asserting rst: every register takes its reset value, every worker is Off, requests are withdrawn
(70_reset_and_hazards.md R261). The parameters, the ports' read data and the model's own fields are no register and
stay. -/
def assertRst (s : State) : State :=
  { State.resetOf s.params with rst := true, readData := s.readData, inputs := s.inputs, freeCount := s.freeCount }

/-- The rst input is driven to `level`; its rising or high level is the reset event (70_reset_and_hazards.md R261). -/
def driveRst (level : Bool) (s : State) : State := if level then assertRst s else { s with rst := false }

/-- One move while rst is not held. -/
def runInput (x : Input) (s : State) : Host.Outcome State Fault Refusal :=
  match x with
  | .memRead addr bytes => hostRead addr bytes s
  | .memWrite addr bytes v => hostWrite addr bytes v s
  | .worker w => .next (workerStep w s)
  | .verifyRsp w accept => .next (takeVerifyRsp w accept s)
  | .rst level => .next (driveRst level s)

/-- One move while rst is held: no host access is accepted, every worker is Off and every answer is ignored
(70_reset_and_hazards.md R261). A host access completes whatever its address and width, also outside the window, with
what readHeld says of a read and no effect of a write: DESIGN CHOICE (log entry 12). -/
def runInputHeld (x : Input) (s : State) : State :=
  match x with
  | .memRead _ _ => readHeld s
  | .memWrite _ _ _ => s
  | .worker _ => s
  | .verifyRsp _ _ => s
  | .rst level => driveRst level s

/-- The move `x` of an agent, by the level of rst. -/
def takeInput (x : Input) (s : State) : Host.Outcome State Fault Refusal :=
  if s.rst then .next (runInputHeld x s) else runInput x s

/-- The device after a host access that ended in BusError: unchanged, with the access gone. A host whose platform lets
it go on goes on from here (20_memory.md R74, 60_exceptions.md R235; log entry 2). -/
def State.afterBusError (s : State) : State := s.withInputs s.inputs.tail

end Sys2Proof.Machine
end

