-- ==== Sys2Proof/Machine/HostProgram.lean ====
section
/-! DEFINITION. The host's assembler syntax and pseudo-instructions as lists of host accesses (30_encoding.md R101,
R102), and the host sequences of 41_absorber.md R141 and 70_reset_and_hazards.md R264 to R266. -/

namespace Sys2Proof.Machine

/-- `RD <reg>` (30_encoding.md R101). -/
def rdReg (p : Params) (r : Register) : Input := .memRead (p.tspBase + registerOffset r) 4

/-- `WR <reg>, <value>` (30_encoding.md R101). -/
def wrReg (p : Params) (r : Register) (v : Reg) : Input := .memWrite (p.tspBase + registerOffset r) 4 v

/-- A command line: `WR CMD, word` (30_encoding.md R101). -/
def command (p : Params) (i : Instr) : Input := wrReg p .cmd (encode i)

/-- pack: trit j at bits [2j+1:2j], the slots above 0 (30_encoding.md R102). -/
def packTrits : List Trit → Reg
  | [] => 0#32
  | t :: ts => (packTrits ts <<< 2) ||| (codeOf t).setWidth 32

/-- `ABSORB "<trits>", auto|hold`: chunks of 16 trits, the last possibly shorter, for a string of at most
`chunks` chunks (30_encoding.md R102). -/
def absorbChunks (p : Params) (auto : Bool) : (chunks : Nat) → List Trit → List Input
  | _, [] => []
  | 0, _ :: _ => []
  | chunks + 1, t :: ts =>
    wrReg p .data0 (packTrits ((t :: ts).take 16)) ::
      command p (.absorbTrits ((t :: ts).take 16).length auto) :: absorbChunks p auto chunks ((t :: ts).drop 16)

/-- `ABSORB "<trits>", auto|hold` (30_encoding.md R102). -/
def absorb (p : Params) (auto : Bool) (ts : List Trit) : List Input := absorbChunks p auto ts.length ts

/-- `SETCELL i, L, H` (30_encoding.md R102). -/
def setCellSeq (p : Params) (i : Nat) (c : Cell) : List Input :=
  [wrReg p .cellLowLo (c.L.extractLsb' 0 32), wrReg p .cellLowHi (c.L.extractLsb' 32 32),
   wrReg p .cellHighLo (c.H.extractLsb' 0 32), wrReg p .cellHighHi (c.H.extractLsb' 32 32),
   command p (.writeCell i)]

/-- `GETCELL i` (30_encoding.md R102). -/
def getCellSeq (p : Params) (i : Nat) : List Input :=
  [command p (.readCell i), rdReg p .cellLowLo, rdReg p .cellLowHi, rdReg p .cellHighLo, rdReg p .cellHighHi]

/-- One turn of `WAIT`: `RD STATUS`; the host repeats it until bit 3 of the value is 0 (30_encoding.md R102). -/
def waitTurn (p : Params) : Input := rdReg p .status

/-- `WAIT` ends on this STATUS value (30_encoding.md R102). -/
def waitEnds (status : Reg) : Bool := !status.getLsbD 3

/-- `WAIT`: RD STATUS until a value with BUSY = 0, for a host whose reads return `replies` in turn (30_encoding.md
R102). -/
def waitSeq (p : Params) : (replies : List Reg) → List Input
  | [] => []
  | status :: rest => waitTurn p :: if waitEnds status then [] else waitSeq p rest

/-- FLAG = Completed in this STATUS value (10_state.md R31, R35). -/
def searchCompleted (status : Reg) : Bool := status.extractLsb' 0 3 == 2#3

/-- `EXPECT_OK` holds of this STATUS value (30_encoding.md R102). That the host sequences below go on whatever it says is
DESIGN CHOICE (log entry 26). -/
def expectOk (status : Reg) : Bool := status.extractLsb' 16 8 == 0#8

/-- `SETRANGE PART|ITER, lo, hi` (30_encoding.md R102). That an operand has 8 bits is DESIGN CHOICE (log entry 27). -/
def setRange (p : Params) (r : Register) (lo hi : BitVec 8) : Input := wrReg p r (0#16 ++ hi ++ lo)

/-- `SETCK base, target, sum` (30_encoding.md R102). That an operand has 8 bits is DESIGN CHOICE (log entry 27). -/
def setCk (p : Params) (base target sum : BitVec 8) : Input := wrReg p .ckcfg (0#8 ++ sum ++ target ++ base)

/-- prepare(message, nonceOffset) for a nonce search (41_absorber.md R141): all but the last 243 trits with auto, the
final block held, the lane pattern. The recipe is given for a message of 8019 trits; that a message of any other length
is split 243 trits before its end is DESIGN CHOICE (log entry 24). -/
def prepareNonce (p : Params) (message : List Trit) (off : Nat) : List Input :=
  [command p .absorbInit] ++ absorb p true (message.take (message.length - Config.hashLength)) ++
    absorb p false (message.drop (message.length - Config.hashLength)) ++ [command p (.lanePattern off)]

/-- The boot sequence (70_reset_and_hazards.md R264); its last read is EXPECT_OK's (log entry 26). -/
def bootSeq (p : Params) (useIrq : Bool) : List Input :=
  [rdReg p .caps] ++ (if useIrq then [wrReg p .ctrl 0x1#32] else []) ++ [command p .absorbInit, rdReg p .status]

/-- The nonce search sequence up to the acceptance of the search (70_reset_and_hazards.md R265); its last read is
EXPECT_OK's (log entry 26), and its register values have 8 bits (log entry 27). -/
def nonceSeq (p : Params) (message : List Trit) (off : Nat) (plo phi ilo ihi mwm n : BitVec 8) : List Input :=
  prepareNonce p message off ++
    [setRange p .part plo phi, setRange p .iter ilo ihi, wrReg p .mwm (mwm.setWidth 32),
     wrReg p .nworkers (n.setWidth 32), command p .searchNonce, rdReg p .status]

/-- The checksum search sequence up to the acceptance of the search (70_reset_and_hazards.md R266): the host's framing
`auto`, padding and verification are its choice. Its last read is EXPECT_OK's (log entry 26), and its register values
have 8 bits (log entry 27). -/
def checksumSeq (p : Params) (message : List Trit) (auto pad verify : Bool)
    (ckBase target sum plo phi ilo : BitVec 8) : List Input :=
  [command p .absorbInit] ++ absorb p auto message ++ (if pad then [command p .padRate] else []) ++
    [command p (.lanePattern ckBase.toNat), setRange p .part plo phi, wrReg p .iter (ilo.setWidth 32),
     setCk p ckBase target sum] ++
    (if verify then [wrReg p .ctrl 0x2#32] else []) ++ [command p .searchChecksum, rdReg p .status]

/-- RD RESULT0 .. RESULT15, in that order. -/
def readResults (p : Params) : List Input := (List.finRange 16).map fun k => rdReg p (.result k)

/-- The end of the nonce search sequence, after WAIT: RD STATUS, the result where the STATUS value that it returns says
Completed, and DONE is cleared (70_reset_and_hazards.md R265). -/
def nonceTail (p : Params) (status : Reg) : List Input :=
  [rdReg p .status] ++ (if searchCompleted status then readResults p else []) ++ [wrReg p .status 0x100#32]

/-- The nonce search sequence whole (70_reset_and_hazards.md R265), for a host whose WAIT reads return `replies` (none,
where it waits for irq) and whose RD STATUS after it returns `status`. It goes on after EXPECT_OK whatever that read
returned: DESIGN CHOICE (log entry 26). -/
def nonceSearch (p : Params) (message : List Trit) (off : Nat) (plo phi ilo ihi mwm n : BitVec 8) (replies : List Reg)
    (status : Reg) : List Input :=
  nonceSeq p message off plo phi ilo ihi mwm n ++ waitSeq p replies ++ nonceTail p status

/-- The end of the checksum search sequence, after WAIT: RD STATUS, RD RESULT_INFO, RD RESULTk
(70_reset_and_hazards.md R266). That RESULTk stands for all sixteen registers, read whatever FLAG is, is DESIGN CHOICE
(log entry 25). -/
def checksumTail (p : Params) : List Input := [rdReg p .status, rdReg p .resultInfo] ++ readResults p

/-- The checksum search sequence whole (70_reset_and_hazards.md R266), for a host whose WAIT reads return `replies`.
It goes on after EXPECT_OK whatever that read returned: DESIGN CHOICE (log entry 26). -/
def checksumSearch (p : Params) (message : List Trit) (auto pad verify : Bool)
    (ckBase target sum plo phi ilo : BitVec 8) (replies : List Reg) : List Input :=
  checksumSeq p message auto pad verify ckBase target sum plo phi ilo ++ waitSeq p replies ++ checksumTail p

end Sys2Proof.Machine
end

