-- ==== Sys2Proof/Machine/Step.lean ====
section
/-! DEFINITION. One step of the machine: the next move in State.inputs (log entry 1). -/

namespace Sys2Proof.Machine

/-- One step: the agent whose move stands first in State.inputs takes it. With no move to come nothing happens
(60_exceptions.md R247; 70_reset_and_hazards.md R280: nothing forces an agent to move). -/
def step (s : State) : Host.Outcome State Fault Refusal :=
  match s.inputs with
  | [] => .next s
  | x :: rest => takeInput x (s.withInputs rest)

/-- The state whose next step is the host's MemWrite of the command word to CMD (10_state.md R37), with rst not held:
the word is the low `nbits` bits of `w`, every bit above them 0 (log entry 1). -/
def State.withFetchWord (s : State) (nbits w : Nat) : State :=
  { s with
    rst := false
    inputs := .memWrite (s.params.tspBase + registerOffset .cmd) 4 (BitVec.ofNat 32 (w % 2 ^ nbits)) :: s.inputs }

end Sys2Proof.Machine
end

