-- ==== Sys2Proof/Safety.lean ====
section
/-! DEFINITION. The terms the statements are written in: reference forms of the spec's functions that do not use the
machine's loops, the counter's value, and the invariants of the device. -/

namespace Sys2Proof.Safety

open Sys2Proof.Machine

/-- One round in closed form: cell i from the snapshot's cells 364·i and 364·(i+1) modulo 729 (40_permutation.md R115). -/
def roundRef (X : Buffer) : Buffer :=
  Vector.ofFn fun i : Fin 729 =>
    cellUpdate (getCell X (364 * i.val % 729)) (getCell X (364 * (i.val + 1) % 729))

/-- `k` rounds in closed form. -/
def roundsRef : Nat → Buffer → Buffer
  | 0, B => B
  | k + 1, B => roundsRef k (roundRef B)

/-- The trit function F(a, y) of one lane (40_permutation.md R116). -/
def tritF : Trit → Trit → Trit
  | .neg, .neg => .pos
  | .neg, .zero => .pos
  | .neg, .pos => .neg
  | .zero, .neg => .zero
  | .zero, .zero => .neg
  | .zero, .pos => .pos
  | .pos, .neg => .neg
  | .pos, .zero => .zero
  | .pos, .pos => .zero

/-- One round of one lane's trits (40_permutation.md R115, R116). -/
def tritRound (f : Nat → Trit) : Nat → Trit := fun i => tritF (f (364 * i % 729)) (f (364 * (i + 1) % 729))

/-- `k` rounds of one lane's trits. -/
def tritRounds : Nat → (Nat → Trit) → (Nat → Trit)
  | 0, f => f
  | k + 1, f => tritRounds k (tritRound f)

/-- Lane b of the buffer holds the trits f. -/
def LaneHolds (B : Buffer) (b : Nat) (f : Nat → Trit) : Prop :=
  ∀ i, i < 729 → laneCode (getCell B i) b = codeOf (f i)

/-- The buffers agree in lane b. -/
def LaneAgrees (B B' : Buffer) (b : Nat) : Prop :=
  ∀ i, i < 729 → laneCode (getCell B i) b = laneCode (getCell B' i) b

/-- The buffer with the cells [pos, pos + length of ts) replaced by the broadcast trits ts, first trit at pos. -/
def placed (B : Buffer) (pos : Nat) (ts : List Trit) : Buffer :=
  Vector.ofFn fun i : Fin 729 =>
    if pos ≤ i.val ∧ i.val < pos + ts.length then bcast (ts.getD (i.val - pos) .zero) else getCell B i.val

/-- The buffer with the cells [lo, hi) replaced by c. -/
def filled (B : Buffer) (lo hi : Nat) (c : Cell) : Buffer :=
  Vector.ofFn fun i : Fin 729 => if lo ≤ i.val ∧ i.val < hi then c else getCell B i.val

/-- The buffer with one cell replaced. -/
def replaced (B : Buffer) (idx : Nat) (c : Cell) : Buffer :=
  Vector.ofFn fun i : Fin 729 => if i.val = idx then c else getCell B i.val

/-- The digit of a cell as an integer; 0 for a cell that is not uniform. -/
def digit (c : Cell) : Int :=
  match val c with
  | some .neg => -1
  | some .zero => 0
  | some .pos => 1
  | none => 0

/-- The counter's value over `len` cells from lo on, cell lo the least significant (42_nonce_search.md R154). -/
def counterValue (B : Buffer) : (len lo : Nat) → Int
  | 0, _ => 0
  | len + 1, lo => digit (getCell B lo) + 3 * counterValue B len (lo + 1)

/-- The largest value of a counter of `len` digits (42_nonce_search.md R154). -/
def counterMax (len : Nat) : Int := (3 ^ len - 1) / 2

/-- `k` consecutive Incs: how many overflowed, and the buffer after them (42_nonce_search.md R154). -/
def incRun : Nat → Buffer → (lo hi : Nat) → Nat × Buffer
  | 0, B, _, _ => (0, B)
  | k + 1, B, lo, hi =>
    ((incRun k (inc B lo hi).2 lo hi).1 + (if (inc B lo hi).1 then 1 else 0), (incRun k (inc B lo hi).2 lo hi).2)

/-- How many of cells 0..n-1 hold the trit t in lane b. -/
def laneCount (B : Buffer) (n b : Nat) (t : Trit) : Nat :=
  (List.range n).countP fun i => decide (laneCode (getCell B i) b = codeOf t)

/-- Lane b of T has its final mwm hash trits 0 (42_nonce_search.md R156, R159). -/
def MeetsDifficulty (T : Buffer) (mwm b : Nat) : Prop :=
  ∀ i, 243 - mwm ≤ i → i < 243 → laneCode (getCell T i) b = codeOf .zero

/-- Lane b of T has as many +1 as -1 trits in its first sl hash trits (43_checksum.md R201). -/
def ZeroSum (T : Buffer) (sl b : Nat) : Prop := laneCount T sl b .pos = laneCount T sl b .neg

/-- The offset is in the register map (10_state.md R32). -/
abbrev Mapped (offset : Nat) : Prop := offset % 4 = 0 ∧ (offset ≤ 0x44 ∨ (0x80 ≤ offset ∧ offset ≤ 0xBC))

/-- The state u with the fields that the register r names taken from t, the named half alone of CELL_L and CELL_H: all
that a write to r other than CMD may change (10_state.md R34 to R50; 20_memory.md R75, R79). -/
def registerFieldsFrom (r : Register) (t u : State) : State :=
  match r with
  | .ctrl => { u with irqEn := t.irqEn, verifyEn := t.verifyEn }
  | .status => { u with done := t.done }
  | .data0 => { u with data0 := t.data0 }
  | .mwm => { u with mwm := t.mwm }
  | .nworkers => { u with nworkers := t.nworkers }
  | .part => { u with partLo := t.partLo, partHi := t.partHi }
  | .iter => { u with iterLo := t.iterLo, iterHi := t.iterHi }
  | .ckcfg => { u with ckBase := t.ckBase, targetLength := t.targetLength, sumLength := t.sumLength }
  | .cellLowLo => { u with cellL := u.cellL.extractLsb' 32 32 ++ t.cellL.extractLsb' 0 32 }
  | .cellLowHi => { u with cellL := t.cellL.extractLsb' 32 32 ++ u.cellL.extractLsb' 0 32 }
  | .cellHighLo => { u with cellH := u.cellH.extractLsb' 32 32 ++ t.cellH.extractLsb' 0 32 }
  | .cellHighHi => { u with cellH := t.cellH.extractLsb' 32 32 ++ u.cellH.extractLsb' 0 32 }
  | .caps => u
  | .cmd => u
  | .absPos => u
  | .absTotal => u
  | .absBlocks => u
  | .resultInfo => u
  | .result _ => u

/-- The worker count N that ResolveWorkers gives (42_nonce_search.md R173). -/
def ResolvedCount (s : State) (n : Nat) : Prop :=
  (s.nworkers = 0#8 ∧ n = max 1 (s.params.nwMax - 1)) ∨
  (s.nworkers ≠ 0#8 ∧ n = s.nworkers.toNat ∧ n ≤ s.params.nwMax)

/-- The workers of a search that starts with n workers (42_nonce_search.md R180). -/
def Spawned (s : State) (n : Nat) (ws : List Worker) : Prop :=
  ws.length = s.workers.length ∧
  ∀ w, w < ws.length →
    ws.getD w Worker.blank =
      if w < n then
        { s.worker w with
          pre := incTimes w s.mid s.partLo.toNat s.partHi.toNat
          ck := s.targetLength.toNat
          phase := .check }
      else s.worker w

/-- The state after the start of a search, its workers given (42_nonce_search.md R179). -/
def started (s : State) (m : Mode) (n : Nat) (ws : List Worker) : State :=
  { s with
    snap :=
      { mode := m, mwm := s.mwm.toNat, n := n, partLo := s.partLo.toNat, partHi := s.partHi.toNat,
        iterLo := s.iterLo.toNat, iterHi := s.iterHi.toNat, ckBase := s.ckBase.toNat,
        targetLength := s.targetLength.toNat, sumLength := s.sumLength.toNat, verifyEn := s.verifyEn }
    result := Vector.replicate 256 0b00#2
    resultLen := 0
    winLane := 0
    winWorker := 0
    mode := m
    done := false
    flag := .running
    workers := ws
    active := n
    err := .ok }

/-- Every cell of [lo, hi) is the broadcast of some trit (30_encoding.md R93). -/
def UniformCells (B : Buffer) (lo hi : Nat) : Prop := ∀ i, lo ≤ i → i < hi → ∃ t, getCell B i = bcast t

/-- The number of workers whose phase is not Off (10_state.md R35). -/
def activeCount (ws : List Worker) : Nat := ws.countP fun W => decide (W.phase ≠ .off)

/-- The result state is clear (42_nonce_search.md R179). -/
def ResultClear (s : State) : Prop :=
  s.result = Vector.replicate 256 0b00#2 ∧ s.resultLen = 0 ∧ s.winLane = 0 ∧ s.winWorker = 0

/-- The verifier slots of a worker: in Verify it has a request or an answer, not both; in any other phase neither
(43_checksum.md R205, R206). -/
def SlotsOk (W : Worker) : Prop :=
  if W.phase = .verify then W.request.isSome = !W.response.isSome else W.request = none ∧ W.response = none

/-- The shape of the device: the counters agree with the workers, FLAG and DONE agree with ACTIVE, and the result is
clear unless a search completed, and only a checksum search ends Exhausted (10_state.md R25, R28, R29, R31, R35;
42_nonce_search.md R185, R187; 60_exceptions.md R240). -/
structure Shape (s : State) : Prop where
  paramsWf : s.params.wf = true
  workers_length : s.workers.length = s.params.nwMax
  active_eq : s.active = activeCount s.workers
  absPos_le : s.absPos ≤ 243
  hit_lt : ∀ W ∈ s.workers, W.hit < 64
  slots : ∀ W ∈ s.workers, SlotsOk W
  winLane_lt : s.winLane < 64
  winWorker_le : s.winWorker ≤ 254
  running_busy : s.flag = .running → 0 < s.active
  idle_quiet : s.flag = .idle → s.active = 0
  uninit_quiet : s.midValid = false → s.active = 0
  held_quiet : s.rst = true → s.active = 0
  done_quiet : s.done = true → s.active = 0
  mode_snap : 0 < s.active → s.snap.mode = s.mode
  result_clear : s.flag ≠ .completed → ResultClear s
  exhausted_checksum : s.flag = .exhausted → s.mode = .checksum

/-- The layout of a snapshot that a search was accepted with (42_nonce_search.md R172, R174; 43_checksum.md R192). -/
def SnapOk (c : Snap) : Prop :=
  match c.mode with
  | .nonce => c.mwm ≤ 243 ∧ c.partLo ≤ c.partHi ∧ c.partHi ≤ 243 ∧ c.iterLo < c.iterHi ∧ c.iterHi ≤ 243
  | .checksum =>
    1 ≤ c.targetLength ∧ c.ckBase + c.targetLength ≤ 243 ∧ c.ckBase ≤ c.partLo ∧ c.partLo ≤ c.partHi ∧
      c.partHi ≤ c.iterLo ∧ c.iterLo < c.ckBase + c.targetLength ∧ c.sumLength ≤ 243

/-- A worker that runs holds digits wherever its search may increment, and its checksum length is in bounds
(42_nonce_search.md R153, 43_checksum.md R193, R209). -/
def WorkerDigits (c : Snap) (W : Worker) : Prop :=
  UniformCells W.pre c.partLo c.partHi ∧
  match c.mode with
  | .nonce => UniformCells W.pre c.iterLo c.iterHi
  | .checksum => UniformCells W.pre c.iterLo 243 ∧ c.targetLength ≤ W.ck ∧ c.ckBase + W.ck ≤ 243

/-- Every running worker holds digits under an accepted snapshot, so no increment of a search ever meets a cell that
is not uniform (42_nonce_search.md R153, 60_exceptions.md R237). -/
structure Digits (s : State) : Prop where
  snap_ok : 0 < s.active → SnapOk s.snap
  workers_ok : ∀ W ∈ s.workers, W.phase ≠ .off → WorkerDigits s.snap W
  resultLen_le : s.resultLen ≤ 243

end Sys2Proof.Safety
end

