-- ==== Sys2Proof/Certificates/Slice0/Obligations.lean ====
section
/-! DEFINITION. The statements for the provers. Hypotheses are on the state and the operands alone; every statement
over all states quantifies over the instance parameters too, which are a field of State. A statement about `step` says
whose move comes next by State.inputs: that the interleaving of the agents stands in a list is the model's choice (log
entry 1), what the move does is the spec's. -/

open Sys2Proof Sys2Proof.Machine Sys2Proof.Safety

/-! ### Encoding -/

/-- Decoding an encoded well-formed command gives it back (30_encoding.md R96, R97, R100). -/
def Obligations.DecodeOfEncodeIsIdentity : Prop :=
  ∀ i : Instr, i.wf = true → decode (encode i) = .ok i

/-- Every word that decodes is the encoding of what it decodes to, so no bit of a legal word is dropped
(30_encoding.md R96, R98, R100). -/
def Obligations.EncodeOfDecodeIsIdentity : Prop :=
  ∀ (w : Reg) (i : Instr), decode w = .ok i → i.wf = true ∧ encode i = w

/-- A word decodes to the command of a row of the opcode map iff word AND mask equals the row's pattern, whichever row
it is: the rows do not overlap (30_encoding.md R97). -/
def Obligations.WordSelectsRowIffMaskMatches : Prop :=
  ∀ (w : Reg) (r : OpRow), r ∈ opcodeMap → (decode w = .ok (operands r.op w) ↔ w &&& r.mask = r.pattern)

/-- A word that matches no row of the opcode map, written to CMD, gives ERR_OPCODE and changes no other state. Every
word with OPCODE 0x09..0x0F or 0x13..0xFF is such a word, and so is every word with a listed OPCODE and a reserved
operand bit set (30_encoding.md R98). -/
def Obligations.IllegalWordGivesErrOpcode : Prop :=
  (∀ (w : Reg) (s : State), (∀ r ∈ opcodeMap, w &&& r.mask ≠ r.pattern) →
    submitCommand w s = .next { s with err := .opcode }) ∧
  (∀ w : Reg, (0x09 ≤ (w.extractLsb' 24 8).toNat ∧ (w.extractLsb' 24 8).toNat ≤ 0x0F) ∨
      0x13 ≤ (w.extractLsb' 24 8).toNat → ∀ r ∈ opcodeMap, w &&& r.mask ≠ r.pattern) ∧
  (∀ (w : Reg) (r : OpRow), r ∈ opcodeMap → w.extractLsb' 24 8 = r.pattern.extractLsb' 24 8 →
    w &&& (r.mask &&& 0x00FFFFFF#32) ≠ 0#32 → ∀ q ∈ opcodeMap, w &&& q.mask ≠ q.pattern)

/-- The five example words of 30_encoding.md R100 and the word of CANCEL, of the format that they leave out, decode to
what they stand for. -/
def Obligations.ExampleWordsDecode : Prop :=
  decode 0x02000110#32 = .ok (.absorbTrits 16 true) ∧ decode 0x02000003#32 = .ok (.absorbTrits 3 false) ∧
  decode 0x050000A2#32 = .ok (.lanePattern 162) ∧ decode 0x0603CCD8#32 = .ok (.increment 216 243) ∧
  decode 0x070002D8#32 = .ok (.readCell 728) ∧ decode 0x12000000#32 = .ok .cancel

/-! ### The step -/

/-- When the next move is the host's write of a word to CMD, the step submits the word as one command to the state with
the move taken off: a word that decodes runs exec of its command, and a word that matches no row of the opcode map gives
ERR_OPCODE and changes no other state (10_state.md R37; 20_memory.md R80; 30_encoding.md R98). That the order of the
moves stands in State.inputs is the model's choice (log entry 1). -/
def Obligations.StepRunsDecodedCommand : Prop :=
  ∀ (s : State) (w : Reg) (rest : List Input),
    s.params.tspBase % 256 = 0 → s.rst = false →
    s.inputs = .memWrite (s.params.tspBase + 0x0C) 4 w :: rest →
    step s = submitCommand w { s with inputs := rest } ∧
    (∀ i : Instr, decode w = .ok i → step s = exec i { s with inputs := rest }) ∧
    ((∀ r ∈ opcodeMap, w &&& r.mask ≠ r.pattern) → step s = .next { s with inputs := rest, err := .opcode })

/-! ### The register window -/

/-- A host access to the window ends in BusError exactly when it is not 32 bits wide, not aligned, or to an unmapped
offset; otherwise it completes (20_memory.md R73, R74). That BusError is a fault of the step is log entry 2; that the
order of the moves stands in State.inputs is the model's choice (log entry 1). -/
def Obligations.BusErrorExactlyOnBadAccess : Prop :=
  ∀ (s : State) (o bytes : Nat) (v : Reg) (rest : List Input),
    s.params.tspBase % 256 = 0 → s.rst = false → o < 256 →
    (s.inputs = .memRead (s.params.tspBase + o) bytes :: rest ∨
      s.inputs = .memWrite (s.params.tspBase + o) bytes v :: rest) →
    if bytes = 4 ∧ Mapped o then ∃ t, step s = .next t else step s = .fault (.busError o bytes)

/-- A read of a register returns its value on the read-data port and changes nothing else (20_memory.md R78). That the
port's data stands in a field, and the order of the moves in State.inputs, is the model's choice (log entries 14 and
1). -/
def Obligations.ReadChangesOnlyReadData : Prop :=
  ∀ (s : State) (r : Register) (rest : List Input),
    s.params.tspBase % 256 = 0 → s.rst = false →
    s.inputs = .memRead (s.params.tspBase + registerOffset r) 4 :: rest →
    step s = .next { s with readData := readRegister s r, inputs := rest }

/-- The fields of STATUS, RESULT_INFO and CAPS stand at their bits with the reserved bits 0, FLAG and ERR by the numbers
of their encodings, ABS_POS, ABS_TOTAL and ABS_BLOCKS read the absorber's counters, and CMD reads 0 (10_state.md R31,
R33, R35, R37, R44 to R47; 60_exceptions.md R230). -/
def Obligations.StatusAndInfoWordFields : Prop :=
  ∀ s : State, s.active < 256 → s.winLane < 64 → s.winWorker < 256 → s.resultLen < 256 → s.absPos < 256 →
    s.params.nwMax < 256 → s.params.transactionLength < 65536 →
    (readRegister s .status).extractLsb' 0 3 =
      (match s.flag with
      | .idle => 0#3
      | .running => 1#3
      | .completed => 2#3
      | .cancelled => 3#3
      | .exhausted => 4#3) ∧
    (readRegister s .status).getLsbD 3 = decide (0 < s.active) ∧
    (readRegister s .status).getLsbD 4 = s.midValid ∧
    (readRegister s .status).getLsbD 5 = s.ovf ∧
    (readRegister s .status).getLsbD 6 = decide (s.mode = .checksum) ∧
    (readRegister s .status).getLsbD 7 = false ∧
    (readRegister s .status).getLsbD 8 = s.done ∧
    (readRegister s .status).extractLsb' 9 7 = 0#7 ∧
    (readRegister s .status).extractLsb' 16 8 =
      (match s.err with
      | .ok => 0#8
      | .opcode => 1#8
      | .busy => 2#8
      | .uninit => 3#8
      | .range => 4#8
      | .badTrit => 5#8
      | .rateFull => 6#8
      | .length => 7#8
      | .partition => 8#8
      | .nonUniform => 9#8) ∧
    ((readRegister s .status).extractLsb' 24 8).toNat = s.active ∧
    ((readRegister s .resultInfo).extractLsb' 0 6).toNat = s.winLane ∧
    (readRegister s .resultInfo).extractLsb' 6 2 = 0#2 ∧
    ((readRegister s .resultInfo).extractLsb' 8 8).toNat = s.winWorker ∧
    ((readRegister s .resultInfo).extractLsb' 16 8).toNat = s.resultLen ∧
    (readRegister s .resultInfo).extractLsb' 24 8 = 0#8 ∧
    ((readRegister s .caps).extractLsb' 0 8).toNat = s.params.nwMax ∧
    (readRegister s .caps).extractLsb' 8 8 = 0#8 ∧
    ((readRegister s .caps).extractLsb' 16 16).toNat = s.params.transactionLength ∧
    (readRegister s .absPos).toNat = s.absPos ∧ readRegister s .absTotal = s.absTotal ∧
    readRegister s .absBlocks = s.absBlocks ∧ readRegister s .cmd = 0#32

/-- A written read-write register holds each of its fields from the bits that the spec gives the field, it reads back what
was written with its reserved bits 0, and the halves of CELL_L and CELL_H are independent (10_state.md R34, R38 to R43,
R48; 20_memory.md R75). -/
def Obligations.WrittenRegisterReadsBack : Prop :=
  ∀ (s : State) (v : Reg),
    readRegister (writeRegister .ctrl v s) .ctrl = v &&& 0x00000003#32 ∧
    readRegister (writeRegister .data0 v s) .data0 = v ∧
    readRegister (writeRegister .mwm v s) .mwm = v &&& 0x000000FF#32 ∧
    readRegister (writeRegister .nworkers v s) .nworkers = v &&& 0x000000FF#32 ∧
    readRegister (writeRegister .part v s) .part = v &&& 0x0000FFFF#32 ∧
    readRegister (writeRegister .iter v s) .iter = v &&& 0x0000FFFF#32 ∧
    readRegister (writeRegister .ckcfg v s) .ckcfg = v &&& 0x00FFFFFF#32 ∧
    readRegister (writeRegister .cellLowLo v s) .cellLowLo = v ∧
    readRegister (writeRegister .cellLowLo v s) .cellLowHi = readRegister s .cellLowHi ∧
    readRegister (writeRegister .cellLowHi v s) .cellLowHi = v ∧
    readRegister (writeRegister .cellLowHi v s) .cellLowLo = readRegister s .cellLowLo ∧
    readRegister (writeRegister .cellHighLo v s) .cellHighLo = v ∧
    readRegister (writeRegister .cellHighLo v s) .cellHighHi = readRegister s .cellHighHi ∧
    readRegister (writeRegister .cellHighHi v s) .cellHighHi = v ∧
    readRegister (writeRegister .cellHighHi v s) .cellHighLo = readRegister s .cellHighLo ∧
    (writeRegister .ctrl v s).irqEn = v.getLsbD 0 ∧ (writeRegister .ctrl v s).verifyEn = v.getLsbD 1 ∧
    (writeRegister .data0 v s).data0 = v ∧ (writeRegister .mwm v s).mwm = v.extractLsb' 0 8 ∧
    (writeRegister .nworkers v s).nworkers = v.extractLsb' 0 8 ∧
    (writeRegister .part v s).partLo = v.extractLsb' 0 8 ∧ (writeRegister .part v s).partHi = v.extractLsb' 8 8 ∧
    (writeRegister .iter v s).iterLo = v.extractLsb' 0 8 ∧ (writeRegister .iter v s).iterHi = v.extractLsb' 8 8 ∧
    (writeRegister .ckcfg v s).ckBase = v.extractLsb' 0 8 ∧
    (writeRegister .ckcfg v s).targetLength = v.extractLsb' 8 8 ∧
    (writeRegister .ckcfg v s).sumLength = v.extractLsb' 16 8 ∧
    (writeRegister .cellLowLo v s).cellL.extractLsb' 0 32 = v ∧
    (writeRegister .cellLowHi v s).cellL.extractLsb' 32 32 = v ∧
    (writeRegister .cellHighLo v s).cellH.extractLsb' 0 32 = v ∧
    (writeRegister .cellHighHi v s).cellH.extractLsb' 32 32 = v

/-- RESULTk holds result slots 16k..16k+15, slot 16k + j at bits [2j+1:2j] (10_state.md R49). -/
def Obligations.ResultRegisterPacksSlots : Prop :=
  ∀ (s : State) (k : Fin 16) (j : Nat), j < 16 →
    (readRegister s (.result k)).extractLsb' (2 * j) 2 = s.result.getD (16 * k.val + j) 0b00#2

/-- The step of a write to a register other than CMD stores the value as writeRegister does, and changes no field but
those that the register names: MID, the absorber, the workers, SNAP, the search state, the result, the error code, OVF
and every other register stay as they are, the other half of a cell staging register among them; a write to a read-only
register changes nothing (10_state.md R26, R48, R50; 20_memory.md R75, R79). That the order of the moves stands in
State.inputs is the model's choice (log entry 1). -/
def Obligations.RegisterWriteFrame : Prop :=
  ∀ (s : State) (r : Register) (v : Reg) (rest : List Input),
    s.params.tspBase % 256 = 0 → s.rst = false → r ≠ .cmd →
    s.inputs = .memWrite (s.params.tspBase + registerOffset r) 4 v :: rest →
    ∃ t, step s = .next t ∧ t = writeRegister r v { s with inputs := rest } ∧
      t = registerFieldsFrom r t { s with inputs := rest } ∧
      (r ∈ [.caps, .absPos, .absTotal, .absBlocks, .resultInfo] ∨ (∃ k, r = .result k) → t = { s with inputs := rest })

/-- A STATUS write with bit 8 set clears DONE and changes nothing else; with bit 8 clear it changes nothing
(10_state.md R36). irq is a level: a CTRL write that sets IRQ_EN raises it at once while DONE = 1, and one that clears
IRQ_EN lowers it without clearing DONE (60_exceptions.md R240). That the order of the moves stands in State.inputs is
the model's choice (log entry 1). -/
def Obligations.DoneAndInterruptFollowWrites : Prop :=
  ∀ (s : State) (v : Reg) (rest : List Input), s.params.tspBase % 256 = 0 → s.rst = false →
    (s.inputs = .memWrite (s.params.tspBase + 0x08) 4 v :: rest →
      step s = .next { s with inputs := rest, done := if v.getLsbD 8 then false else s.done }) ∧
    (s.inputs = .memWrite (s.params.tspBase + 0x04) 4 v :: rest →
      ∃ t, step s = .next t ∧ t.irq = (s.done && v.getLsbD 0) ∧ t.done = s.done)

/-! ### Commands: errors -/

/-- Every command, with any operands, in any state, answers a next state, and one that ends with an error code changed
nothing but STATUS.ERR: a command error is no bus error and does not halt the device (60_exceptions.md R231, R242). -/
def Obligations.CommandErrorChangesOnlyErr : Prop :=
  ∀ (i : Instr) (s : State), ∃ t, exec i s = .next t ∧ (t.err ≠ .ok → t = { s with err := t.err })

/-- While BUSY = 1 every command except NOP and CANCEL is rejected with ERR_BUSY (60_exceptions.md R233). -/
def Obligations.BusyRejectsCommands : Prop :=
  ∀ (i : Instr) (s : State), 0 < s.active → i ≠ .nop → i ≠ .cancel → exec i s = .next { s with err := .busy }

/-- While MID_VALID = 0 every command except NOP, ABSORB_INIT and CANCEL is rejected with ERR_UNINIT, unless BUSY = 1
(60_exceptions.md R232, R236). -/
def Obligations.UninitRejectsCommands : Prop :=
  ∀ (i : Instr) (s : State), s.active = 0 → s.midValid = false → i ≠ .nop → i ≠ .absorbInit → i ≠ .cancel →
    exec i s = .next { s with err := .uninit }

/-- The error codes each command can give (60_exceptions.md R239). -/
def Obligations.PossibleErrorCodes : Prop :=
  ∀ (i : Instr) (s t : State), exec i s = .next t →
    t.err ∈
      (match i with
      | .nop => [ErrCode.ok]
      | .cancel => [.ok]
      | .absorbInit => [.ok, .busy]
      | .padRate => [.ok, .busy, .uninit]
      | .permute => [.ok, .busy, .uninit]
      | .absorbTrits _ _ => [.ok, .busy, .uninit, .range, .badTrit, .rateFull]
      | .lanePattern _ => [.ok, .busy, .uninit, .range]
      | .readCell _ => [.ok, .busy, .uninit, .range]
      | .writeCell _ => [.ok, .busy, .uninit, .range]
      | .increment _ _ => [.ok, .busy, .uninit, .range, .nonUniform]
      | .searchNonce => [.ok, .busy, .uninit, .range, .length, .partition, .nonUniform]
      | .searchChecksum => [.ok, .busy, .uninit, .range, .partition, .nonUniform])

/-- Operands out of range are rejected with ERR_RANGE: a cell index above 728, an offset above 239, LO > HI or
HI > 729, a trit count of 0 or above 16. INCREMENT over a range with a cell that is not uniform is rejected with
ERR_NONUNIFORM (41_absorber.md R132, R137; 42_nonce_search.md R155; 44_host_access.md R221, R222). -/
def Obligations.BadOperandsAreRejected : Prop :=
  ∀ s : State, s.active = 0 → s.midValid = true →
    (∀ idx, 728 < idx → exec (.readCell idx) s = .next { s with err := .range }) ∧
    (∀ idx, 728 < idx → exec (.writeCell idx) s = .next { s with err := .range }) ∧
    (∀ off, 239 < off → exec (.lanePattern off) s = .next { s with err := .range }) ∧
    (∀ lo hi, hi < lo ∨ 729 < hi → exec (.increment lo hi) s = .next { s with err := .range }) ∧
    (∀ n auto, n = 0 ∨ 16 < n → exec (.absorbTrits n auto) s = .next { s with err := .range }) ∧
    (∀ lo hi i, lo ≤ hi → hi ≤ 729 → lo ≤ i → i < hi → (∀ t, getCell s.mid i ≠ bcast t) →
      exec (.increment lo hi) s = .next { s with err := .nonUniform })

/-- An ABSORB_TRITS with a consumed slot 0b00 is rejected with ERR_BAD_TRIT; a hold form that would pass cell 242 is
rejected with ERR_RATE_FULL (41_absorber.md R132). -/
def Obligations.AbsorbTritsRejections : Prop :=
  ∀ (s : State) (n : Nat) (auto : Bool), s.active = 0 → s.midValid = true → 1 ≤ n → n ≤ 16 →
    ((∃ j, j < n ∧ slot s.data0 j = 0b00#2) → exec (.absorbTrits n auto) s = .next { s with err := .badTrit }) ∧
    ((∀ j, j < n → slot s.data0 j ≠ 0b00#2) → auto = false → 243 < s.absPos + n →
      exec (.absorbTrits n auto) s = .next { s with err := .rateFull })

/-! ### Commands: host access, absorber, PERMUTE -/

/-- NOP sets STATUS.ERR to 0 and does nothing else, in every state (44_host_access.md R220). -/
def Obligations.NopClearsErr : Prop := ∀ s : State, exec .nop s = .next { s with err := .ok }

/-- READ_CELL copies a MID cell to CELL_L and CELL_H (44_host_access.md R221). -/
def Obligations.ReadCellCopiesCell : Prop :=
  ∀ (s : State) (idx : Nat), s.active = 0 → s.midValid = true → idx ≤ 728 →
    exec (.readCell idx) s =
      .next { s with cellL := (getCell s.mid idx).L, cellH := (getCell s.mid idx).H, err := .ok }

/-- WRITE_CELL stores CELL_L and CELL_H into one MID cell and no other (44_host_access.md R222). -/
def Obligations.WriteCellStoresStaging : Prop :=
  ∀ (s : State) (idx : Nat), s.active = 0 → s.midValid = true → idx ≤ 728 →
    exec (.writeCell idx) s = .next { s with mid := replaced s.mid idx ⟨s.cellL, s.cellH⟩, err := .ok }

/-- WRITE_CELL then READ_CELL of one index gives back what the staging registers held at the WRITE_CELL, whatever they
hold at the READ_CELL; READ_CELL then WRITE_CELL of one index leaves MID unchanged (44_host_access.md R224). -/
def Obligations.CellAccessRoundTrip : Prop :=
  ∀ (s : State) (idx : Nat), s.active = 0 → s.midValid = true → idx ≤ 728 →
    (∀ l h : Word, ∃ t u, exec (.writeCell idx) s = .next t ∧
      exec (.readCell idx) { t with cellL := l, cellH := h } = .next u ∧ u.cellL = s.cellL ∧ u.cellH = s.cellH) ∧
    (∃ t u, exec (.readCell idx) s = .next t ∧ exec (.writeCell idx) t = .next u ∧ u.mid = s.mid)

/-- ABSORB_INIT makes every MID cell trit 0, sets MID_VALID and clears the absorber's counters, also when MID_VALID was
0 (41_absorber.md R131). -/
def Obligations.AbsorbInitClearsMid : Prop :=
  ∀ s : State, s.active = 0 →
    exec .absorbInit s =
      .next { s with
              mid := Vector.replicate 729 (bcast .zero), midValid := true, absPos := 0, absTotal := 0#32,
              absBlocks := 0#32, err := .ok }

/-- ABSORB_TRITS within a block: the hold form up to a full rate, the auto form below it, writes the trits of the
first n slots to cells ABS_POS on and advances the counters (41_absorber.md R132). -/
def Obligations.AbsorbTritsWithinBlock : Prop :=
  ∀ (s : State) (n : Nat) (auto : Bool) (ts : List Trit),
    s.active = 0 → s.midValid = true → 1 ≤ n → n ≤ 16 → ts.length = n →
    (∀ j, j < n → dec (slot s.data0 j) = ts[j]?) →
    (if auto then s.absPos + n < 243 else s.absPos + n ≤ 243) →
    exec (.absorbTrits n auto) s =
      .next { s with
              mid := placed s.mid s.absPos ts, absPos := s.absPos + n, absTotal := s.absTotal + BitVec.ofNat 32 n,
              err := .ok }

/-- ABSORB_TRITS with auto that reaches the end of the rate: the trits up to cell 242 are written, the block is
transformed once, and the remaining trits are written from cell 0 on; on a full rate the pending block is transformed
before the first trit is written (41_absorber.md R132, R133). What the engine holds between Transforms, and that this
site on MID has an engine of its own, is the model's (log entries 7 and 19). -/
def Obligations.AbsorbTritsClosesBlock : Prop :=
  ∀ (s : State) (n : Nat) (ts : List Trit),
    s.active = 0 → s.midValid = true → 1 ≤ n → n ≤ 16 → ts.length = n →
    (∀ j, j < n → dec (slot s.data0 j) = ts[j]?) →
    (s.absPos < 243 → 243 ≤ s.absPos + n →
      exec (.absorbTrits n true) s =
        .next { s with
                mid := placed (transform (placed s.mid s.absPos (ts.take (243 - s.absPos)))) 0
                  (ts.drop (243 - s.absPos))
                closeEngine := (runTransform s.closeEngine (placed s.mid s.absPos (ts.take (243 - s.absPos)))).1
                absPos := s.absPos + n - 243
                absTotal := s.absTotal + BitVec.ofNat 32 n
                absBlocks := s.absBlocks + 1#32
                err := .ok }) ∧
    (s.absPos = 243 →
      exec (.absorbTrits n true) s =
        .next { s with
                mid := placed (transform s.mid) 0 ts
                closeEngine := (runTransform s.closeEngine s.mid).1
                absPos := n
                absTotal := s.absTotal + BitVec.ofNat 32 n
                absBlocks := s.absBlocks + 1#32
                err := .ok })

/-- PAD_RATE fills cells ABS_POS..242 with trit 0 and sets ABS_POS to 243 (41_absorber.md R134). -/
def Obligations.PadRateFillsRate : Prop :=
  ∀ s : State, s.active = 0 → s.midValid = true →
    exec .padRate s =
      .next { s with mid := filled s.mid s.absPos 243 (bcast .zero), absPos := 243, err := .ok }

/-- PERMUTE transforms MID, sets ABS_POS to 0 and counts the block (40_permutation.md R121). What the engine holds
between Transforms, and that this site on MID has an engine of its own, is the model's (log entries 7 and 19). -/
def Obligations.PermuteTransformsMid : Prop :=
  ∀ s : State, s.active = 0 → s.midValid = true →
    exec .permute s =
      .next { s with
              mid := roundsRef 27 s.mid, permuteEngine := (runTransform s.permuteEngine s.mid).1, absPos := 0,
              absBlocks := s.absBlocks + 1#32, err := .ok }

/-- LANE_PATTERN writes the instance's four pattern cells at OFF..OFF+3 and no other cell (41_absorber.md R137). -/
def Obligations.LanePatternWritesFourCells : Prop :=
  ∀ (s : State) (off : Nat), s.active = 0 → s.midValid = true → off ≤ 239 →
    ∃ B, exec (.lanePattern off) s = .next { s with mid := B, err := .ok } ∧
      (∀ k : Fin 4, getCell B (off + k.val) = s.params.lanePattern[k]) ∧
      (∀ i, i < off ∨ off + 4 ≤ i → getCell B i = getCell s.mid i)

/-! ### The Transform -/

/-- The Transform is 27 rounds of the closed form, whatever its engine's scratch buffer and counters held before
(40_permutation.md R114, R115, R120). -/
def Obligations.TransformIsClosedForm : Prop :=
  ∀ (e : Engine) (B : Buffer), (runTransform e B).2 = roundsRef 27 B

/-- No lane of any cell of a Transform's output is (0,0), whatever its input (40_permutation.md R117). -/
def Obligations.TransformOutputsValidTrits : Prop :=
  ∀ (B : Buffer) (i b : Nat), i < 729 → b < 64 → laneCode (getCell (transform B) i) b ≠ 0b00#2

/-- Lane b of the output depends only on lane b of the input, and a state of uniform cells maps to a state of uniform
cells (40_permutation.md R118). -/
def Obligations.TransformKeepsLanesApart : Prop :=
  (∀ (B B' : Buffer) (b : Nat), b < 64 → LaneAgrees B B' b → LaneAgrees (transform B) (transform B') b) ∧
  (∀ B : Buffer, UniformCells B 0 729 → UniformCells (transform B) 0 729)

/-- On valid lane pairs the cell update computes F in each lane, and the bit-sliced Transform equals the trit
Transform of each lane (40_permutation.md R116). -/
def Obligations.TransformIsTritTransformPerLane : Prop :=
  (∀ (x y : Cell) (b : Nat) (u v : Trit), b < 64 → laneCode x b = codeOf u → laneCode y b = codeOf v →
    laneCode (cellUpdate x y) b = codeOf (tritF u v)) ∧
  ∀ (B : Buffer) (b : Nat) (f : Nat → Trit), b < 64 → LaneHolds B b f →
    LaneHolds (transform B) b (tritRounds 27 f)

/-- If every lane of every cell holds one trit t, every cell holds F(t, t) after one round, and t again after the 27
rounds of the Transform (40_permutation.md R119). -/
def Obligations.TransformFixesConstantStates : Prop :=
  ∀ t : Trit,
    (transformRound 0 (Vector.replicate 729 (bcast t))).1 = Vector.replicate 729 (bcast (tritF t t)) ∧
    transform (Vector.replicate 729 (bcast t)) = Vector.replicate 729 (bcast t)

/-! ### The increment -/

/-- Inc adds one to the counter's value, or takes the maximum to the minimum with an overflow; it leaves digits digits
and every other cell as it is (42_nonce_search.md R150, R152, R154). -/
def Obligations.IncCountsOne : Prop :=
  ∀ (B : Buffer) (lo hi : Nat), lo ≤ hi → hi ≤ 729 → UniformCells B lo hi →
    UniformCells (inc B lo hi).2 lo hi ∧
    (∀ i, i < lo ∨ hi ≤ i → getCell (inc B lo hi).2 i = getCell B i) ∧
    (if counterValue B (hi - lo) lo < counterMax (hi - lo) then
      counterValue (inc B lo hi).2 (hi - lo) lo = counterValue B (hi - lo) lo + 1 ∧ (inc B lo hi).1 = false
    else counterValue (inc B lo hi).2 (hi - lo) lo = -counterMax (hi - lo) ∧ (inc B lo hi).1 = true)

/-- 3^L consecutive Incs of L digits return the range to its start, with exactly one overflow (42_nonce_search.md
R154). -/
def Obligations.IncPeriodHasOneOverflow : Prop :=
  ∀ (B : Buffer) (lo hi : Nat), lo ≤ hi → hi ≤ 729 → UniformCells B lo hi →
    incRun (3 ^ (hi - lo)) B lo hi = (1, B)

/-- INCREMENT applies Inc to MID and puts its overflow into OVF (42_nonce_search.md R155). -/
def Obligations.IncrementWritesOvf : Prop :=
  ∀ (s : State) (lo hi : Nat), s.active = 0 → s.midValid = true → lo ≤ hi → hi ≤ 729 → UniformCells s.mid lo hi →
    exec (.increment lo hi) s = .next { s with mid := (inc s.mid lo hi).2, ovf := (inc s.mid lo hi).1, err := .ok }

/-! ### Starting and cancelling a search -/

/-- SEARCH_NONCE is accepted when every check passes, and starts the search (42_nonce_search.md R170 to R180). That a
worker's ck takes TARGET_LENGTH in a nonce search, also above 243, is the model's reading of R180 against 10_state.md
R25 (log entry 15). -/
def Obligations.SearchNonceStarts : Prop :=
  ∀ (s : State) (n : Nat),
    s.active = 0 → s.midValid = true → s.mwm.toNat ≤ 243 → ResolvedCount s n →
    s.partLo.toNat ≤ s.partHi.toNat → s.partHi.toNat ≤ 243 → s.iterLo.toNat < s.iterHi.toNat →
    s.iterHi.toNat ≤ 243 →
    (s.partLo.toNat < s.partHi.toNat → s.iterHi.toNat ≤ s.partLo.toNat ∨ s.partHi.toNat ≤ s.iterLo.toNat) →
    s.absTotal.toNat = s.params.transactionLength → n ≤ 3 ^ (s.partHi.toNat - s.partLo.toNat) →
    UniformCells s.mid s.partLo.toNat s.partHi.toNat → UniformCells s.mid s.iterLo.toNat s.iterHi.toNat →
    ∃ ws, exec .searchNonce s = .next (started s .nonce n ws) ∧ Spawned s n ws

/-- The first failing check of SEARCH_NONCE gives its error code (42_nonce_search.md R171 to R178). -/
def Obligations.SearchNonceRejections : Prop :=
  ∀ s : State, s.active = 0 → s.midValid = true →
    let range := 243 < s.mwm.toNat ∨ s.params.nwMax < s.nworkers.toNat ∨
      ¬ (s.partLo.toNat ≤ s.partHi.toNat ∧ s.partHi.toNat ≤ 243 ∧ s.iterLo.toNat < s.iterHi.toNat ∧
        s.iterHi.toNat ≤ 243) ∨
      (s.partLo.toNat < s.partHi.toNat ∧ s.partLo.toNat < s.iterHi.toNat ∧ s.iterLo.toNat < s.partHi.toNat)
    let length := s.absTotal.toNat ≠ s.params.transactionLength
    let partition := ∀ n, ResolvedCount s n → 3 ^ (s.partHi.toNat - s.partLo.toNat) < n
    let mixed := ¬ (UniformCells s.mid s.partLo.toNat s.partHi.toNat ∧
      UniformCells s.mid s.iterLo.toNat s.iterHi.toNat)
    (range → exec .searchNonce s = .next { s with err := .range }) ∧
    (¬ range → length → exec .searchNonce s = .next { s with err := .length }) ∧
    (¬ range → ¬ length → partition → exec .searchNonce s = .next { s with err := .partition }) ∧
    (¬ range → ¬ length → ¬ partition → mixed → exec .searchNonce s = .next { s with err := .nonUniform })

/-- SEARCH_CHECKSUM is accepted when every check passes, and starts the search (43_checksum.md R190 to R193). -/
def Obligations.SearchChecksumStarts : Prop :=
  ∀ (s : State) (n : Nat),
    s.active = 0 → s.midValid = true → ResolvedCount s n → 1 ≤ s.targetLength.toNat →
    s.ckBase.toNat + s.targetLength.toNat ≤ 243 → s.ckBase.toNat ≤ s.partLo.toNat →
    s.partLo.toNat ≤ s.partHi.toNat → s.partHi.toNat ≤ s.iterLo.toNat →
    s.iterLo.toNat < s.ckBase.toNat + s.targetLength.toNat → s.sumLength.toNat ≤ 243 →
    n ≤ 3 ^ (s.partHi.toNat - s.partLo.toNat) →
    UniformCells s.mid s.partLo.toNat s.partHi.toNat → UniformCells s.mid s.iterLo.toNat 243 →
    ∃ ws, exec .searchChecksum s = .next (started s .checksum n ws) ∧ Spawned s n ws

/-- The first failing check of SEARCH_CHECKSUM gives its error code; ABS_TOTAL and MWM are not checked
(43_checksum.md R190 to R193). -/
def Obligations.SearchChecksumRejections : Prop :=
  ∀ s : State, s.active = 0 → s.midValid = true →
    let range := s.params.nwMax < s.nworkers.toNat ∨
      ¬ (1 ≤ s.targetLength.toNat ∧ s.ckBase.toNat + s.targetLength.toNat ≤ 243 ∧
        s.ckBase.toNat ≤ s.partLo.toNat ∧ s.partLo.toNat ≤ s.partHi.toNat ∧ s.partHi.toNat ≤ s.iterLo.toNat ∧
        s.iterLo.toNat < s.ckBase.toNat + s.targetLength.toNat ∧ s.sumLength.toNat ≤ 243)
    let partition := ∀ n, ResolvedCount s n → 3 ^ (s.partHi.toNat - s.partLo.toNat) < n
    let mixed := ¬ (UniformCells s.mid s.partLo.toNat s.partHi.toNat ∧ UniformCells s.mid s.iterLo.toNat 243)
    (range → exec .searchChecksum s = .next { s with err := .range }) ∧
    (¬ range → partition → exec .searchChecksum s = .next { s with err := .partition }) ∧
    (¬ range → ¬ partition → mixed → exec .searchChecksum s = .next { s with err := .nonUniform })

/-- The workers of an accepted search start with pairwise distinct partition values (42_nonce_search.md R163, R177). -/
def Obligations.WorkersStartDistinct : Prop :=
  ∀ (i : Instr) (s t : State), i = .searchNonce ∨ i = .searchChecksum → s.workers.length = s.params.nwMax →
    1 ≤ s.params.nwMax → exec i s = .next t → t.err = .ok →
    ∀ v w, v < w → w < t.active →
      ∃ k, t.snap.partLo ≤ k ∧ k < t.snap.partHi ∧ getCell (t.worker v).pre k ≠ getCell (t.worker w).pre k

/-- CANCEL moves FLAG from Running to Cancelled and does nothing else; with FLAG not Running only ERR changes. It is
accepted in every state (42_nonce_search.md R186). -/
def Obligations.CancelStopsRunningSearch : Prop :=
  ∀ s : State,
    (s.flag = .running → exec .cancel s = .next { s with flag := .cancelled, err := .ok }) ∧
    (s.flag ≠ .running → exec .cancel s = .next { s with err := .ok })

/-! ### Workers and verifier -/

/-- A Check step: with FLAG Running the worker goes on to Iterate; otherwise it stops, and the last one to stop sets
DONE (42_nonce_search.md R182, R185). That the order of the moves stands in State.inputs is the model's choice (log
entry 1). -/
def Obligations.CheckStepObeysFlag : Prop :=
  ∀ (s : State) (w : Nat) (rest : List Input),
    s.rst = false → w < s.workers.length → (s.worker w).phase = .check → s.inputs = .worker w :: rest →
    (s.flag = .running →
      step s = .next { s with inputs := rest, workers := s.workers.set w { s.worker w with phase := .iterate } }) ∧
    (s.flag ≠ .running →
      step s =
        .next { s with
                inputs := rest, workers := s.workers.set w { s.worker w with phase := .off }, active := s.active - 1,
                done := if s.active - 1 = 0 then true else s.done })

/-- After an Iterate step in nonce mode the worker's S is one Inc further, T is its Transform, and either the worker
goes to Claim with the lowest lane whose final MWM hash trits are all 0, or no lane meets the difficulty and it goes
back to Check with its hit lane as it was; its checksum length and verifier slots stay (42_nonce_search.md R156, R159,
R183). That the order of the moves stands in State.inputs is the model's choice (log entry 1). -/
def Obligations.NonceIterateFindsLowestHit : Prop :=
  ∀ (s : State) (w : Nat) (rest : List Input),
    s.rst = false → w < s.workers.length → (s.worker w).phase = .iterate → s.snap.mode = .nonce →
    s.snap.mwm ≤ 243 → s.inputs = .worker w :: rest →
    ∃ W, step s = .next { s with inputs := rest, workers := s.workers.set w W } ∧
      W.pre = (inc (s.worker w).pre s.snap.iterLo s.snap.iterHi).2 ∧ W.work = transform W.pre ∧
      W.ck = (s.worker w).ck ∧ W.request = (s.worker w).request ∧ W.response = (s.worker w).response ∧
      ((W.phase = .claim ∧ W.hit < 64 ∧ MeetsDifficulty W.work s.snap.mwm W.hit ∧
          ∀ b, b < W.hit → ¬ MeetsDifficulty W.work s.snap.mwm b) ∨
        (W.phase = .check ∧ W.hit = (s.worker w).hit ∧ ∀ b, b < 64 → ¬ MeetsDifficulty W.work s.snap.mwm b))

/-- On a window of valid trits a lane is balanced iff it holds as many +1 as -1 (43_checksum.md R199, R201). -/
def Obligations.BalancedLaneIffZeroSum : Prop :=
  ∀ (T : Buffer) (sl b : Nat), b < 64 → (∀ i, i < sl → laneCode (getCell T i) b ≠ 0b00#2) →
    ((balanceMask T sl).getLsbD b = true ↔ ZeroSum T sl b)

/-- After an Iterate step of a checksum worker that is not exhausted: its length grew by 3, up to the ceiling, iff its
counter overflowed; and either it goes to Claim, or to Verify with its request on the port, with the lowest lane of
zero sum, or no lane has zero sum and it goes back to Check with its hit lane as it was; only a worker that goes to
Verify writes its request, and its answer slot stays (43_checksum.md R196, R197, R200, R205). That the order of
the moves stands in State.inputs is the model's choice (log entry 1). -/
def Obligations.ChecksumIterateFindsLowestBalanced : Prop :=
  ∀ (s : State) (w : Nat) (rest : List Input),
    s.rst = false → w < s.workers.length → (s.worker w).phase = .iterate → s.snap.mode = .checksum →
    s.snap.sumLength ≤ 243 → s.snap.ckBase + (s.worker w).ck ≤ 243 → s.inputs = .worker w :: rest →
    let r := inc (s.worker w).pre s.snap.iterLo (s.snap.ckBase + (s.worker w).ck)
    ¬ (r.1 = true ∧ s.snap.ckBase + (s.worker w).ck = 243) →
    ∃ W, step s = .next { s with inputs := rest, workers := s.workers.set w W } ∧
      W.pre = r.2 ∧ W.work = transform W.pre ∧
      W.ck = (if r.1 then min ((s.worker w).ck + 3) (243 - s.snap.ckBase) else (s.worker w).ck) ∧
      W.response = (s.worker w).response ∧
      ((W.phase = (if s.snap.verifyEn then .verify else .claim) ∧ W.hit < 64 ∧
          ZeroSum W.work s.snap.sumLength W.hit ∧ (∀ b, b < W.hit → ¬ ZeroSum W.work s.snap.sumLength b) ∧
          W.request =
            (if s.snap.verifyEn then
              some { worker := w, len := W.ck, codes := laneCodes W.pre s.snap.ckBase W.ck W.hit }
            else (s.worker w).request)) ∨
        (W.phase = .check ∧ W.hit = (s.worker w).hit ∧ W.request = (s.worker w).request ∧
          ∀ b, b < 64 → ¬ ZeroSum W.work s.snap.sumLength b))

/-- A checksum worker that overflows at the ceiling stops in the same step, without a test; the last one to stop leaves
a search that still runs Exhausted (43_checksum.md R196, R198; 42_nonce_search.md R185). That the order of the moves
stands in State.inputs is the model's choice (log entry 1). -/
def Obligations.CeilingOverflowExhausts : Prop :=
  ∀ (s : State) (w : Nat) (rest : List Input),
    s.rst = false → w < s.workers.length → (s.worker w).phase = .iterate → s.snap.mode = .checksum →
    s.snap.ckBase + (s.worker w).ck = 243 → (inc (s.worker w).pre s.snap.iterLo 243).1 = true →
    s.inputs = .worker w :: rest →
    step s =
      .next { s with
              inputs := rest
              workers := s.workers.set w
                { s.worker w with pre := (inc (s.worker w).pre s.snap.iterLo 243).2, phase := .off }
              active := s.active - 1
              flag := if s.active - 1 = 0 ∧ s.flag = .running then .exhausted else s.flag
              done := if s.active - 1 = 0 then true else s.done }

/-- A Verify step without an answer changes nothing: the worker waits. With an answer it consumes it and goes to Claim
or back to Check. The device takes an answer for a worker in Verify that has a request out, and ignores an answer for a
worker that is not in Verify (43_checksum.md R205, R206, R207). That a step which is not enabled is a move that changes
nothing, and that an answer is taken whichever request it was given for, is the model's (log entries 13 and 22), as is
the order of the moves in State.inputs (log entry 1). -/
def Obligations.VerifyFollowsTheAnswer : Prop :=
  ∀ (s : State) (w : Nat) (rest : List Input), s.rst = false → w < s.workers.length →
    (s.inputs = .worker w :: rest → (s.worker w).phase = .verify →
      ((s.worker w).response = none → step s = .next { s with inputs := rest }) ∧
      (∀ a, (s.worker w).response = some a →
        step s =
          .next { s with
                  inputs := rest
                  workers := s.workers.set w
                    { s.worker w with response := none, phase := if a then .claim else .check } })) ∧
    (∀ a, s.inputs = .verifyRsp w a :: rest →
      ((s.worker w).phase ≠ .verify → step s = .next { s with inputs := rest }) ∧
      ((s.worker w).phase = .verify → (s.worker w).request.isSome = true →
        step s =
          .next { s with
                  inputs := rest
                  workers := s.workers.set w { s.worker w with request := none, response := some a } }))

/-- A Claim that finds FLAG Running completes the search: it writes the hit lane's codes of the pre-transform state,
their number, the lane and the worker, and stops, all in one step. A Claim that finds FLAG not Running writes no result
and stops (42_nonce_search.md R160, R184; 43_checksum.md R200). That the order of the moves stands in State.inputs is
the model's choice (log entry 1). -/
def Obligations.ClaimWinsOnlyWhileRunning : Prop :=
  ∀ (s : State) (w : Nat) (rest : List Input),
    s.rst = false → w < s.workers.length → (s.worker w).phase = .claim → s.inputs = .worker w :: rest →
    let base := match s.snap.mode with
      | .nonce => 0
      | .checksum => s.snap.ckBase
    let len := match s.snap.mode with
      | .nonce => 243
      | .checksum => (s.worker w).ck
    (s.flag = .running →
      ∃ R : Vector Code 256,
        step s =
          .next { s with
                  inputs := rest, workers := s.workers.set w { s.worker w with phase := .off }, active := s.active - 1,
                  flag := .completed, done := if s.active - 1 = 0 then true else s.done, result := R,
                  resultLen := len, winLane := (s.worker w).hit, winWorker := w } ∧
        ∀ k, k < 256 →
          R.getD k 0b00#2 =
            if k < len then laneCode (getCell (s.worker w).pre (base + k)) (s.worker w).hit
            else s.result.getD k 0b00#2) ∧
    (s.flag ≠ .running →
      step s =
        .next { s with
                inputs := rest, workers := s.workers.set w { s.worker w with phase := .off }, active := s.active - 1,
                done := if s.active - 1 = 0 then true else s.done })

/-! ### The whole machine -/

/-- A step of worker w touches no other worker, not MID, and no configuration, staging or absorber register: of the shared
state only the search state, DONE and the result. A move of a worker that is Off, or that does not exist, changes
nothing. A host access other than the start of a search touches no worker (20_memory.md R84, 10_state.md R25,
42_nonce_search.md R181). That a step which is not enabled is a move that changes nothing is the model's (log entry 13),
as is the order of the moves in State.inputs (log entry 1). -/
def Obligations.PrivateStateStaysPrivate : Prop :=
  ∀ (s t : State) (x : Input) (rest : List Input), s.rst = false → s.inputs = x :: rest → step s = .next t →
    (∀ w, x = .worker w →
      ((s.worker w).phase = .off → step s = .next { s with inputs := rest }) ∧
      (∀ v, v ≠ w → t.worker v = s.worker v) ∧
      t = { s with
            inputs := rest, workers := t.workers, flag := t.flag, active := t.active, done := t.done,
            result := t.result, resultLen := t.resultLen, winLane := t.winLane, winWorker := t.winWorker }) ∧
    (∀ addr bytes, x = .memRead addr bytes → t.workers = s.workers) ∧
    (∀ addr bytes v, x = .memWrite addr bytes v →
      t.workers = s.workers ∨ (s.active = 0 ∧ t.flag = .running ∧ t.err = .ok))

/-- While a search runs no step changes MID, but for reset (20_memory.md R89, 60_exceptions.md R233). That the order of
the moves stands in State.inputs is the model's choice (log entry 1). -/
def Obligations.MidIsConstantWhileBusy : Prop :=
  ∀ s t : State, 0 < s.active → step s = .next t → t.mid = s.mid ∨ t.rst = true

/-- FLAG moves only forward within a search: it stays, or leaves Running for a terminal value, or a search starts while
no worker runs, or reset makes it Idle (10_state.md R31). That the order of the moves stands in State.inputs is the
model's choice (log entry 1). -/
def Obligations.FlagMovesForward : Prop :=
  ∀ s t : State, step s = .next t →
    t.flag = s.flag ∨
    (s.flag = .running ∧ (t.flag = .completed ∨ t.flag = .cancelled ∨ t.flag = .exhausted)) ∨
    (s.flag ≠ .running ∧ t.flag = .running ∧ s.active = 0) ∨
    (t.flag = .idle ∧ t.rst = true)

/-- The result state is changed only by the claim that takes FLAG from Running to Completed, by a search start and by
reset; a step that starts a search, and a step that asserts rst, leave it clear (10_state.md R29, 42_nonce_search.md R187,
70_reset_and_hazards.md R261). That the order of the moves stands in State.inputs is the model's choice (log entry 1). -/
def Obligations.OnlyTheWinWritesResult : Prop :=
  ∀ s t : State, step s = .next t →
    ((t.result = s.result ∧ t.resultLen = s.resultLen ∧ t.winLane = s.winLane ∧ t.winWorker = s.winWorker) ∨
      (s.flag = .running ∧ t.flag = .completed ∧ (s.worker t.winWorker).phase = .claim) ∨
      (s.active = 0 ∧ t.flag = .running ∧ ResultClear t) ∨ (t.rst = true ∧ ResultClear t)) ∧
    (s.flag ≠ .running → t.flag = .running → ResultClear t) ∧
    (s.rst = false → t.rst = true → ResultClear t)

/-- Every step keeps the shape of the device, and the instance parameters with it (10_state.md R25 to R35;
42_nonce_search.md R185, R187). That the order of the moves stands in State.inputs is the model's choice (log entry 1),
and so is that reset drops an answer that is not consumed (log entry 23). -/
def Obligations.StepKeepsShape : Prop := ∀ s t : State, Shape s → step s = .next t → Shape t ∧ t.params = s.params

/-- Every step keeps every running worker's counter ranges uniform, so that no increment of a search ever meets a cell
that is not a digit (42_nonce_search.md R153, 60_exceptions.md R237). That the order of the moves stands in
State.inputs is the model's choice (log entry 1). -/
def Obligations.StepKeepsDigits : Prop :=
  ∀ s t : State, Shape s → Digits s → step s = .next t → Digits t

/-- The device right after reset, with any parameters that meet their constraints, meets both invariants. The workers'
hit lanes and the other values the spec leaves open at reset are the model's choice (log entry 6), and so is that no
verifier answer is left after reset (log entry 23). -/
def Obligations.ResetMeetsInvariants : Prop :=
  ∀ p : Params, p.wf = true → Shape (State.resetOf p) ∧ Digits (State.resetOf p)

/-- After reset CAPS reads its parameters, NW_MAX in bits [7:0] and TRANSACTION_LENGTH in bits [31:16] with 0 between
them, and every other register reads 0; with NW_MAX = 4 and TRANSACTION_LENGTH = 8019 CAPS reads 0x1F530004
(10_state.md R33, 70_reset_and_hazards.md R262). -/
def Obligations.ResetReadsZero : Prop :=
  (∀ (p : Params) (r : Register), r ≠ .caps → readRegister (State.resetOf p) r = 0#32) ∧
  (∀ p : Params, p.wf = true →
    ((readRegister (State.resetOf p) .caps).extractLsb' 0 8).toNat = p.nwMax ∧
    (readRegister (State.resetOf p) .caps).extractLsb' 8 8 = 0#8 ∧
    ((readRegister (State.resetOf p) .caps).extractLsb' 16 16).toNat = p.transactionLength) ∧
  (∀ p : Params, p.nwMax = 4 → p.transactionLength = 8019 →
    readRegister (State.resetOf p) .caps = 0x1F530004#32)

/-- Asserting rst, whatever the device does and whether or not rst is held already: every worker is Off, no request is
out, every register but CAPS reads 0, irq is low, and the parameters stay. Releasing rst lowers its level and changes
nothing else, whether or not it was held (70_reset_and_hazards.md R261). That each level of rst is a move which acts at
its place in State.inputs is the model's (log entries 1 and 8). -/
def Obligations.RstResetsTheDevice : Prop :=
  ∀ (s : State) (rest : List Input),
    (s.inputs = .rst true :: rest →
      ∃ t, step s = .next t ∧ t.params = s.params ∧ t.inputs = rest ∧ t.rst = true ∧
        (∀ w, (t.worker w).phase = .off) ∧ t.verifyReq = [] ∧ t.irq = false ∧
        (∀ r, r ≠ .caps → readRegister t r = 0#32)) ∧
    (s.inputs = .rst false :: rest → step s = .next { s with inputs := rest, rst := false })

/-- While rst is held no move but a move of rst changes the device: the read-data port and the counter of free values
alone may change (70_reset_and_hazards.md R261). What a read returns is the free value of log entry 12, and that every
host access completes then, also a narrow or unaligned one and one outside the window, is the model's choice (log entry
12), as is the order of the moves in State.inputs (log entry 1). -/
def Obligations.HeldDeviceAcceptsNothing : Prop :=
  ∀ (s : State) (x : Input) (rest : List Input), s.rst = true → s.inputs = x :: rest →
    (∀ level, x ≠ .rst level) →
    ∃ t, step s = .next t ∧ t = { s with inputs := rest, readData := t.readData, freeCount := t.freeCount }
end

