-- ==== Sys2Proof/Laws/Cells.lean ====
section
/-! SUPPORT. Trit codes, cells and buffers: what a read sees of a write, and what a fill writes. -/

namespace Sys2Proof.Machine

theorem dec_codeOf (t : Trit) : dec (codeOf t) = some t := by cases t <;> decide

theorem codeOf_of_dec {c : Code} {t : Trit} (h : dec c = some t) : c = codeOf t := by
  revert h; cases t <;> revert c <;> decide

/-- 0b00 is the only code that is no trit (30_encoding.md R90). -/
theorem dec_eq_none_iff (c : Code) : dec c = none ↔ c = 0b00#2 := by revert c; decide

theorem val_bcast (t : Trit) : val (bcast t) = some t := by cases t <;> decide

theorem uniform_bcast (t : Trit) : uniform (bcast t) = true := by simp [uniform, val_bcast]

/-- A cell has the value t iff it is the broadcast of t (30_encoding.md R93). -/
theorem val_eq_some_iff (c : Cell) (t : Trit) : val c = some t ↔ c = bcast t := by
  constructor
  · intro h
    unfold val at h
    split at h
    · cases h; assumption
    · split at h
      · cases h; assumption
      · split at h
        · cases h; assumption
        · cases h
  · rintro rfl; exact val_bcast t

theorem uniform_iff (c : Cell) : uniform c = true ↔ ∃ t, c = bcast t := by
  simp only [uniform, Option.isSome_iff_exists, val_eq_some_iff]

theorem getCell_eq (B : Buffer) {i : Nat} (h : i < 729) : getCell B i = B[i] := by
  simp [getCell, Vector.getD, h]

theorem getCell_of_le (B : Buffer) {i : Nat} (h : 729 ≤ i) : getCell B i = Cell.blank := by
  simp [getCell, Vector.getD, Nat.not_lt.mpr h]

/-- The cell that was written is read back (44_host_access.md R224). -/
@[simp] theorem getCell_setCell_same (B : Buffer) (i : Nat) (c : Cell) (h : i < 729) :
    getCell (setCell B i c) i = c := by
  simp [getCell_eq _ h, setCell]

/-- Every other cell is as before. -/
theorem getCell_setCell_other (B : Buffer) (i j : Nat) (c : Cell) (h : j ≠ i) :
    getCell (setCell B i c) j = getCell B j := by
  by_cases hj : j < 729
  · simp [getCell_eq _ hj, setCell, Ne.symm h]
  · simp [getCell_of_le _ (Nat.not_lt.mp hj)]

theorem getCell_setCell (B : Buffer) (i j : Nat) (c : Cell) (h : i < 729) :
    getCell (setCell B i c) j = if j = i then c else getCell B j := by
  by_cases e : j = i
  · subst e; simp [h]
  · simp [getCell_setCell_other _ _ _ _ e, e]

/-- Two buffers with the same cells are equal. -/
theorem buffer_ext {B B' : Buffer} (h : ∀ i, i < 729 → getCell B i = getCell B' i) : B = B' := by
  apply Vector.ext
  intro i hi
  rw [← getCell_eq B hi, ← getCell_eq B' hi, h i hi]

/-- Writing a cell's own value changes nothing (44_host_access.md R224). -/
theorem setCell_getCell (B : Buffer) (i : Nat) : setCell B i (getCell B i) = B := by
  apply buffer_ext
  intro j hj
  by_cases e : j = i
  · subst e; simp [hj]
  · exact getCell_setCell_other _ _ _ _ e

theorem getCell_replicate (c : Cell) {i : Nat} (h : i < 729) : getCell (Vector.replicate 729 c) i = c := by
  simp [getCell_eq _ h]

/-- A fold of writes of one value over a list of indexes. -/
theorem getCell_foldl_fill (l : List Nat) (c : Cell) (hl : ∀ i ∈ l, i < 729) (B : Buffer) (j : Nat) :
    getCell (l.foldl (fun B i => setCell B i c) B) j = if j ∈ l then c else getCell B j := by
  induction l generalizing B with
  | nil => simp
  | cons i l ih =>
    rw [List.foldl_cons, ih (fun k hk => hl k (List.mem_cons_of_mem _ hk)),
      getCell_setCell _ _ _ _ (hl i List.mem_cons_self)]
    by_cases h1 : j ∈ l <;> by_cases h2 : j = i <;> simp [h1, h2]

/-- A fill writes its range and nothing else. -/
theorem getCell_fillRange (B : Buffer) (lo hi : Nat) (c : Cell) (h : hi ≤ 729) (j : Nat) :
    getCell (fillRange B lo hi c) j = if lo ≤ j ∧ j < hi then c else getCell B j := by
  unfold fillRange
  rw [getCell_foldl_fill]
  · congr 1
    simp only [List.mem_range'_1, eq_iff_iff]
    omega
  · intro i hi'
    simp only [List.mem_range'_1] at hi'
    omega

/-- Every cell of the range is uniform, said cell by cell. -/
theorem uniformRange_iff (B : Buffer) (lo hi : Nat) :
    uniformRange B lo hi = true ↔ ∀ i, lo ≤ i → i < hi → uniform (getCell B i) = true := by
  simp only [uniformRange, List.all_eq_true, List.mem_range'_1]
  constructor
  · intro h i h1 h2; exact h i ⟨h1, by omega⟩
  · intro h i hi; exact h i hi.1 (by omega)

end Sys2Proof.Machine
end

