-- ==== Sys2Proof/Laws/Effects.lean ====
section
/-! SUPPORT. The fields that each effect of a command or a Claim leaves as they are, one lemma per field, so that no
proof unfolds an effect to see what it leaves alone. -/

namespace Sys2Proof.Machine

/-! The end of a block (41_absorber.md R133). -/

@[simp] theorem finishBlock_params (B : Buffer) (s : State) : (finishBlock B s).params = s.params := by simp only [finishBlock]
@[simp] theorem finishBlock_midValid (B : Buffer) (s : State) : (finishBlock B s).midValid = s.midValid := by simp only [finishBlock]
@[simp] theorem finishBlock_absTotal (B : Buffer) (s : State) : (finishBlock B s).absTotal = s.absTotal := by simp only [finishBlock]
@[simp] theorem finishBlock_flag (B : Buffer) (s : State) : (finishBlock B s).flag = s.flag := by simp only [finishBlock]
@[simp] theorem finishBlock_active (B : Buffer) (s : State) : (finishBlock B s).active = s.active := by simp only [finishBlock]
@[simp] theorem finishBlock_ovf (B : Buffer) (s : State) : (finishBlock B s).ovf = s.ovf := by simp only [finishBlock]
@[simp] theorem finishBlock_mode (B : Buffer) (s : State) : (finishBlock B s).mode = s.mode := by simp only [finishBlock]
@[simp] theorem finishBlock_done (B : Buffer) (s : State) : (finishBlock B s).done = s.done := by simp only [finishBlock]
@[simp] theorem finishBlock_err (B : Buffer) (s : State) : (finishBlock B s).err = s.err := by simp only [finishBlock]
@[simp] theorem finishBlock_irqEn (B : Buffer) (s : State) : (finishBlock B s).irqEn = s.irqEn := by simp only [finishBlock]
@[simp] theorem finishBlock_verifyEn (B : Buffer) (s : State) : (finishBlock B s).verifyEn = s.verifyEn := by simp only [finishBlock]
@[simp] theorem finishBlock_data0 (B : Buffer) (s : State) : (finishBlock B s).data0 = s.data0 := by simp only [finishBlock]
@[simp] theorem finishBlock_mwm (B : Buffer) (s : State) : (finishBlock B s).mwm = s.mwm := by simp only [finishBlock]
@[simp] theorem finishBlock_nworkers (B : Buffer) (s : State) : (finishBlock B s).nworkers = s.nworkers := by simp only [finishBlock]
@[simp] theorem finishBlock_partLo (B : Buffer) (s : State) : (finishBlock B s).partLo = s.partLo := by simp only [finishBlock]
@[simp] theorem finishBlock_partHi (B : Buffer) (s : State) : (finishBlock B s).partHi = s.partHi := by simp only [finishBlock]
@[simp] theorem finishBlock_iterLo (B : Buffer) (s : State) : (finishBlock B s).iterLo = s.iterLo := by simp only [finishBlock]
@[simp] theorem finishBlock_iterHi (B : Buffer) (s : State) : (finishBlock B s).iterHi = s.iterHi := by simp only [finishBlock]
@[simp] theorem finishBlock_ckBase (B : Buffer) (s : State) : (finishBlock B s).ckBase = s.ckBase := by simp only [finishBlock]
@[simp] theorem finishBlock_targetLength (B : Buffer) (s : State) : (finishBlock B s).targetLength = s.targetLength := by simp only [finishBlock]
@[simp] theorem finishBlock_sumLength (B : Buffer) (s : State) : (finishBlock B s).sumLength = s.sumLength := by simp only [finishBlock]
@[simp] theorem finishBlock_cellL (B : Buffer) (s : State) : (finishBlock B s).cellL = s.cellL := by simp only [finishBlock]
@[simp] theorem finishBlock_cellH (B : Buffer) (s : State) : (finishBlock B s).cellH = s.cellH := by simp only [finishBlock]
@[simp] theorem finishBlock_rst (B : Buffer) (s : State) : (finishBlock B s).rst = s.rst := by simp only [finishBlock]
@[simp] theorem finishBlock_readData (B : Buffer) (s : State) : (finishBlock B s).readData = s.readData := by simp only [finishBlock]
@[simp] theorem finishBlock_freeCount (B : Buffer) (s : State) : (finishBlock B s).freeCount = s.freeCount := by simp only [finishBlock]
@[simp] theorem finishBlock_inputs (B : Buffer) (s : State) : (finishBlock B s).inputs = s.inputs := by simp only [finishBlock]
@[simp] theorem finishBlock_snap (B : Buffer) (s : State) : (finishBlock B s).snap = s.snap := by simp only [finishBlock]
@[simp] theorem finishBlock_resultLen (B : Buffer) (s : State) : (finishBlock B s).resultLen = s.resultLen := by simp only [finishBlock]
@[simp] theorem finishBlock_winLane (B : Buffer) (s : State) : (finishBlock B s).winLane = s.winLane := by simp only [finishBlock]
@[simp] theorem finishBlock_winWorker (B : Buffer) (s : State) : (finishBlock B s).winWorker = s.winWorker := by simp only [finishBlock]
@[simp] theorem finishBlock_result (B : Buffer) (s : State) : (finishBlock B s).result = s.result := by simp only [finishBlock]
@[simp] theorem finishBlock_permuteEngine (B : Buffer) (s : State) : (finishBlock B s).permuteEngine = s.permuteEngine := by simp only [finishBlock]
@[simp] theorem finishBlock_closeEngine (B : Buffer) (s : State) : (finishBlock B s).closeEngine = s.closeEngine := by simp only [finishBlock]
@[simp] theorem finishBlock_workers (B : Buffer) (s : State) : (finishBlock B s).workers = s.workers := by simp only [finishBlock]

/-! CloseBlock (41_absorber.md R133). -/

@[simp] theorem closeBlock_params (s : State) : (closeBlock s).params = s.params := by simp only [closeBlock, finishBlock]
@[simp] theorem closeBlock_midValid (s : State) : (closeBlock s).midValid = s.midValid := by simp only [closeBlock, finishBlock]
@[simp] theorem closeBlock_absTotal (s : State) : (closeBlock s).absTotal = s.absTotal := by simp only [closeBlock, finishBlock]
@[simp] theorem closeBlock_flag (s : State) : (closeBlock s).flag = s.flag := by simp only [closeBlock, finishBlock]
@[simp] theorem closeBlock_active (s : State) : (closeBlock s).active = s.active := by simp only [closeBlock, finishBlock]
@[simp] theorem closeBlock_ovf (s : State) : (closeBlock s).ovf = s.ovf := by simp only [closeBlock, finishBlock]
@[simp] theorem closeBlock_mode (s : State) : (closeBlock s).mode = s.mode := by simp only [closeBlock, finishBlock]
@[simp] theorem closeBlock_done (s : State) : (closeBlock s).done = s.done := by simp only [closeBlock, finishBlock]
@[simp] theorem closeBlock_err (s : State) : (closeBlock s).err = s.err := by simp only [closeBlock, finishBlock]
@[simp] theorem closeBlock_irqEn (s : State) : (closeBlock s).irqEn = s.irqEn := by simp only [closeBlock, finishBlock]
@[simp] theorem closeBlock_verifyEn (s : State) : (closeBlock s).verifyEn = s.verifyEn := by simp only [closeBlock, finishBlock]
@[simp] theorem closeBlock_data0 (s : State) : (closeBlock s).data0 = s.data0 := by simp only [closeBlock, finishBlock]
@[simp] theorem closeBlock_mwm (s : State) : (closeBlock s).mwm = s.mwm := by simp only [closeBlock, finishBlock]
@[simp] theorem closeBlock_nworkers (s : State) : (closeBlock s).nworkers = s.nworkers := by simp only [closeBlock, finishBlock]
@[simp] theorem closeBlock_partLo (s : State) : (closeBlock s).partLo = s.partLo := by simp only [closeBlock, finishBlock]
@[simp] theorem closeBlock_partHi (s : State) : (closeBlock s).partHi = s.partHi := by simp only [closeBlock, finishBlock]
@[simp] theorem closeBlock_iterLo (s : State) : (closeBlock s).iterLo = s.iterLo := by simp only [closeBlock, finishBlock]
@[simp] theorem closeBlock_iterHi (s : State) : (closeBlock s).iterHi = s.iterHi := by simp only [closeBlock, finishBlock]
@[simp] theorem closeBlock_ckBase (s : State) : (closeBlock s).ckBase = s.ckBase := by simp only [closeBlock, finishBlock]
@[simp] theorem closeBlock_targetLength (s : State) : (closeBlock s).targetLength = s.targetLength := by simp only [closeBlock, finishBlock]
@[simp] theorem closeBlock_sumLength (s : State) : (closeBlock s).sumLength = s.sumLength := by simp only [closeBlock, finishBlock]
@[simp] theorem closeBlock_cellL (s : State) : (closeBlock s).cellL = s.cellL := by simp only [closeBlock, finishBlock]
@[simp] theorem closeBlock_cellH (s : State) : (closeBlock s).cellH = s.cellH := by simp only [closeBlock, finishBlock]
@[simp] theorem closeBlock_rst (s : State) : (closeBlock s).rst = s.rst := by simp only [closeBlock, finishBlock]
@[simp] theorem closeBlock_readData (s : State) : (closeBlock s).readData = s.readData := by simp only [closeBlock, finishBlock]
@[simp] theorem closeBlock_freeCount (s : State) : (closeBlock s).freeCount = s.freeCount := by simp only [closeBlock, finishBlock]
@[simp] theorem closeBlock_inputs (s : State) : (closeBlock s).inputs = s.inputs := by simp only [closeBlock, finishBlock]
@[simp] theorem closeBlock_snap (s : State) : (closeBlock s).snap = s.snap := by simp only [closeBlock, finishBlock]
@[simp] theorem closeBlock_resultLen (s : State) : (closeBlock s).resultLen = s.resultLen := by simp only [closeBlock, finishBlock]
@[simp] theorem closeBlock_winLane (s : State) : (closeBlock s).winLane = s.winLane := by simp only [closeBlock, finishBlock]
@[simp] theorem closeBlock_winWorker (s : State) : (closeBlock s).winWorker = s.winWorker := by simp only [closeBlock, finishBlock]
@[simp] theorem closeBlock_result (s : State) : (closeBlock s).result = s.result := by simp only [closeBlock, finishBlock]
@[simp] theorem closeBlock_permuteEngine (s : State) : (closeBlock s).permuteEngine = s.permuteEngine := by simp only [closeBlock, finishBlock]
@[simp] theorem closeBlock_workers (s : State) : (closeBlock s).workers = s.workers := by simp only [closeBlock, finishBlock]

/-! PERMUTE (40_permutation.md R121). -/

@[simp] theorem permuteMid_params (s : State) : (permuteMid s).params = s.params := by simp only [permuteMid, finishBlock]
@[simp] theorem permuteMid_midValid (s : State) : (permuteMid s).midValid = s.midValid := by simp only [permuteMid, finishBlock]
@[simp] theorem permuteMid_absTotal (s : State) : (permuteMid s).absTotal = s.absTotal := by simp only [permuteMid, finishBlock]
@[simp] theorem permuteMid_flag (s : State) : (permuteMid s).flag = s.flag := by simp only [permuteMid, finishBlock]
@[simp] theorem permuteMid_active (s : State) : (permuteMid s).active = s.active := by simp only [permuteMid, finishBlock]
@[simp] theorem permuteMid_ovf (s : State) : (permuteMid s).ovf = s.ovf := by simp only [permuteMid, finishBlock]
@[simp] theorem permuteMid_mode (s : State) : (permuteMid s).mode = s.mode := by simp only [permuteMid, finishBlock]
@[simp] theorem permuteMid_done (s : State) : (permuteMid s).done = s.done := by simp only [permuteMid, finishBlock]
@[simp] theorem permuteMid_err (s : State) : (permuteMid s).err = s.err := by simp only [permuteMid, finishBlock]
@[simp] theorem permuteMid_irqEn (s : State) : (permuteMid s).irqEn = s.irqEn := by simp only [permuteMid, finishBlock]
@[simp] theorem permuteMid_verifyEn (s : State) : (permuteMid s).verifyEn = s.verifyEn := by simp only [permuteMid, finishBlock]
@[simp] theorem permuteMid_data0 (s : State) : (permuteMid s).data0 = s.data0 := by simp only [permuteMid, finishBlock]
@[simp] theorem permuteMid_mwm (s : State) : (permuteMid s).mwm = s.mwm := by simp only [permuteMid, finishBlock]
@[simp] theorem permuteMid_nworkers (s : State) : (permuteMid s).nworkers = s.nworkers := by simp only [permuteMid, finishBlock]
@[simp] theorem permuteMid_partLo (s : State) : (permuteMid s).partLo = s.partLo := by simp only [permuteMid, finishBlock]
@[simp] theorem permuteMid_partHi (s : State) : (permuteMid s).partHi = s.partHi := by simp only [permuteMid, finishBlock]
@[simp] theorem permuteMid_iterLo (s : State) : (permuteMid s).iterLo = s.iterLo := by simp only [permuteMid, finishBlock]
@[simp] theorem permuteMid_iterHi (s : State) : (permuteMid s).iterHi = s.iterHi := by simp only [permuteMid, finishBlock]
@[simp] theorem permuteMid_ckBase (s : State) : (permuteMid s).ckBase = s.ckBase := by simp only [permuteMid, finishBlock]
@[simp] theorem permuteMid_targetLength (s : State) : (permuteMid s).targetLength = s.targetLength := by simp only [permuteMid, finishBlock]
@[simp] theorem permuteMid_sumLength (s : State) : (permuteMid s).sumLength = s.sumLength := by simp only [permuteMid, finishBlock]
@[simp] theorem permuteMid_cellL (s : State) : (permuteMid s).cellL = s.cellL := by simp only [permuteMid, finishBlock]
@[simp] theorem permuteMid_cellH (s : State) : (permuteMid s).cellH = s.cellH := by simp only [permuteMid, finishBlock]
@[simp] theorem permuteMid_rst (s : State) : (permuteMid s).rst = s.rst := by simp only [permuteMid, finishBlock]
@[simp] theorem permuteMid_readData (s : State) : (permuteMid s).readData = s.readData := by simp only [permuteMid, finishBlock]
@[simp] theorem permuteMid_freeCount (s : State) : (permuteMid s).freeCount = s.freeCount := by simp only [permuteMid, finishBlock]
@[simp] theorem permuteMid_inputs (s : State) : (permuteMid s).inputs = s.inputs := by simp only [permuteMid, finishBlock]
@[simp] theorem permuteMid_snap (s : State) : (permuteMid s).snap = s.snap := by simp only [permuteMid, finishBlock]
@[simp] theorem permuteMid_resultLen (s : State) : (permuteMid s).resultLen = s.resultLen := by simp only [permuteMid, finishBlock]
@[simp] theorem permuteMid_winLane (s : State) : (permuteMid s).winLane = s.winLane := by simp only [permuteMid, finishBlock]
@[simp] theorem permuteMid_winWorker (s : State) : (permuteMid s).winWorker = s.winWorker := by simp only [permuteMid, finishBlock]
@[simp] theorem permuteMid_result (s : State) : (permuteMid s).result = s.result := by simp only [permuteMid, finishBlock]
@[simp] theorem permuteMid_closeEngine (s : State) : (permuteMid s).closeEngine = s.closeEngine := by simp only [permuteMid, finishBlock]
@[simp] theorem permuteMid_workers (s : State) : (permuteMid s).workers = s.workers := by simp only [permuteMid, finishBlock]

/-! ABSORB_INIT (41_absorber.md R131). -/

@[simp] theorem initMid_params (s : State) : (initMid s).params = s.params := by simp only [initMid]
@[simp] theorem initMid_flag (s : State) : (initMid s).flag = s.flag := by simp only [initMid]
@[simp] theorem initMid_active (s : State) : (initMid s).active = s.active := by simp only [initMid]
@[simp] theorem initMid_ovf (s : State) : (initMid s).ovf = s.ovf := by simp only [initMid]
@[simp] theorem initMid_mode (s : State) : (initMid s).mode = s.mode := by simp only [initMid]
@[simp] theorem initMid_done (s : State) : (initMid s).done = s.done := by simp only [initMid]
@[simp] theorem initMid_err (s : State) : (initMid s).err = s.err := by simp only [initMid]
@[simp] theorem initMid_irqEn (s : State) : (initMid s).irqEn = s.irqEn := by simp only [initMid]
@[simp] theorem initMid_verifyEn (s : State) : (initMid s).verifyEn = s.verifyEn := by simp only [initMid]
@[simp] theorem initMid_data0 (s : State) : (initMid s).data0 = s.data0 := by simp only [initMid]
@[simp] theorem initMid_mwm (s : State) : (initMid s).mwm = s.mwm := by simp only [initMid]
@[simp] theorem initMid_nworkers (s : State) : (initMid s).nworkers = s.nworkers := by simp only [initMid]
@[simp] theorem initMid_partLo (s : State) : (initMid s).partLo = s.partLo := by simp only [initMid]
@[simp] theorem initMid_partHi (s : State) : (initMid s).partHi = s.partHi := by simp only [initMid]
@[simp] theorem initMid_iterLo (s : State) : (initMid s).iterLo = s.iterLo := by simp only [initMid]
@[simp] theorem initMid_iterHi (s : State) : (initMid s).iterHi = s.iterHi := by simp only [initMid]
@[simp] theorem initMid_ckBase (s : State) : (initMid s).ckBase = s.ckBase := by simp only [initMid]
@[simp] theorem initMid_targetLength (s : State) : (initMid s).targetLength = s.targetLength := by simp only [initMid]
@[simp] theorem initMid_sumLength (s : State) : (initMid s).sumLength = s.sumLength := by simp only [initMid]
@[simp] theorem initMid_cellL (s : State) : (initMid s).cellL = s.cellL := by simp only [initMid]
@[simp] theorem initMid_cellH (s : State) : (initMid s).cellH = s.cellH := by simp only [initMid]
@[simp] theorem initMid_rst (s : State) : (initMid s).rst = s.rst := by simp only [initMid]
@[simp] theorem initMid_readData (s : State) : (initMid s).readData = s.readData := by simp only [initMid]
@[simp] theorem initMid_freeCount (s : State) : (initMid s).freeCount = s.freeCount := by simp only [initMid]
@[simp] theorem initMid_inputs (s : State) : (initMid s).inputs = s.inputs := by simp only [initMid]
@[simp] theorem initMid_snap (s : State) : (initMid s).snap = s.snap := by simp only [initMid]
@[simp] theorem initMid_resultLen (s : State) : (initMid s).resultLen = s.resultLen := by simp only [initMid]
@[simp] theorem initMid_winLane (s : State) : (initMid s).winLane = s.winLane := by simp only [initMid]
@[simp] theorem initMid_winWorker (s : State) : (initMid s).winWorker = s.winWorker := by simp only [initMid]
@[simp] theorem initMid_result (s : State) : (initMid s).result = s.result := by simp only [initMid]
@[simp] theorem initMid_permuteEngine (s : State) : (initMid s).permuteEngine = s.permuteEngine := by simp only [initMid]
@[simp] theorem initMid_closeEngine (s : State) : (initMid s).closeEngine = s.closeEngine := by simp only [initMid]
@[simp] theorem initMid_workers (s : State) : (initMid s).workers = s.workers := by simp only [initMid]

/-! One trit of ABSORB_TRITS (41_absorber.md R132). -/

@[simp] theorem writeTrit_params (t : Trit) (s : State) : (writeTrit t s).params = s.params := by simp only [writeTrit]
@[simp] theorem writeTrit_midValid (t : Trit) (s : State) : (writeTrit t s).midValid = s.midValid := by simp only [writeTrit]
@[simp] theorem writeTrit_absTotal (t : Trit) (s : State) : (writeTrit t s).absTotal = s.absTotal := by simp only [writeTrit]
@[simp] theorem writeTrit_absBlocks (t : Trit) (s : State) : (writeTrit t s).absBlocks = s.absBlocks := by simp only [writeTrit]
@[simp] theorem writeTrit_flag (t : Trit) (s : State) : (writeTrit t s).flag = s.flag := by simp only [writeTrit]
@[simp] theorem writeTrit_active (t : Trit) (s : State) : (writeTrit t s).active = s.active := by simp only [writeTrit]
@[simp] theorem writeTrit_ovf (t : Trit) (s : State) : (writeTrit t s).ovf = s.ovf := by simp only [writeTrit]
@[simp] theorem writeTrit_mode (t : Trit) (s : State) : (writeTrit t s).mode = s.mode := by simp only [writeTrit]
@[simp] theorem writeTrit_done (t : Trit) (s : State) : (writeTrit t s).done = s.done := by simp only [writeTrit]
@[simp] theorem writeTrit_err (t : Trit) (s : State) : (writeTrit t s).err = s.err := by simp only [writeTrit]
@[simp] theorem writeTrit_irqEn (t : Trit) (s : State) : (writeTrit t s).irqEn = s.irqEn := by simp only [writeTrit]
@[simp] theorem writeTrit_verifyEn (t : Trit) (s : State) : (writeTrit t s).verifyEn = s.verifyEn := by simp only [writeTrit]
@[simp] theorem writeTrit_data0 (t : Trit) (s : State) : (writeTrit t s).data0 = s.data0 := by simp only [writeTrit]
@[simp] theorem writeTrit_mwm (t : Trit) (s : State) : (writeTrit t s).mwm = s.mwm := by simp only [writeTrit]
@[simp] theorem writeTrit_nworkers (t : Trit) (s : State) : (writeTrit t s).nworkers = s.nworkers := by simp only [writeTrit]
@[simp] theorem writeTrit_partLo (t : Trit) (s : State) : (writeTrit t s).partLo = s.partLo := by simp only [writeTrit]
@[simp] theorem writeTrit_partHi (t : Trit) (s : State) : (writeTrit t s).partHi = s.partHi := by simp only [writeTrit]
@[simp] theorem writeTrit_iterLo (t : Trit) (s : State) : (writeTrit t s).iterLo = s.iterLo := by simp only [writeTrit]
@[simp] theorem writeTrit_iterHi (t : Trit) (s : State) : (writeTrit t s).iterHi = s.iterHi := by simp only [writeTrit]
@[simp] theorem writeTrit_ckBase (t : Trit) (s : State) : (writeTrit t s).ckBase = s.ckBase := by simp only [writeTrit]
@[simp] theorem writeTrit_targetLength (t : Trit) (s : State) : (writeTrit t s).targetLength = s.targetLength := by simp only [writeTrit]
@[simp] theorem writeTrit_sumLength (t : Trit) (s : State) : (writeTrit t s).sumLength = s.sumLength := by simp only [writeTrit]
@[simp] theorem writeTrit_cellL (t : Trit) (s : State) : (writeTrit t s).cellL = s.cellL := by simp only [writeTrit]
@[simp] theorem writeTrit_cellH (t : Trit) (s : State) : (writeTrit t s).cellH = s.cellH := by simp only [writeTrit]
@[simp] theorem writeTrit_rst (t : Trit) (s : State) : (writeTrit t s).rst = s.rst := by simp only [writeTrit]
@[simp] theorem writeTrit_readData (t : Trit) (s : State) : (writeTrit t s).readData = s.readData := by simp only [writeTrit]
@[simp] theorem writeTrit_freeCount (t : Trit) (s : State) : (writeTrit t s).freeCount = s.freeCount := by simp only [writeTrit]
@[simp] theorem writeTrit_inputs (t : Trit) (s : State) : (writeTrit t s).inputs = s.inputs := by simp only [writeTrit]
@[simp] theorem writeTrit_snap (t : Trit) (s : State) : (writeTrit t s).snap = s.snap := by simp only [writeTrit]
@[simp] theorem writeTrit_resultLen (t : Trit) (s : State) : (writeTrit t s).resultLen = s.resultLen := by simp only [writeTrit]
@[simp] theorem writeTrit_winLane (t : Trit) (s : State) : (writeTrit t s).winLane = s.winLane := by simp only [writeTrit]
@[simp] theorem writeTrit_winWorker (t : Trit) (s : State) : (writeTrit t s).winWorker = s.winWorker := by simp only [writeTrit]
@[simp] theorem writeTrit_result (t : Trit) (s : State) : (writeTrit t s).result = s.result := by simp only [writeTrit]
@[simp] theorem writeTrit_permuteEngine (t : Trit) (s : State) : (writeTrit t s).permuteEngine = s.permuteEngine := by simp only [writeTrit]
@[simp] theorem writeTrit_closeEngine (t : Trit) (s : State) : (writeTrit t s).closeEngine = s.closeEngine := by simp only [writeTrit]
@[simp] theorem writeTrit_workers (t : Trit) (s : State) : (writeTrit t s).workers = s.workers := by simp only [writeTrit]

/-! PAD_RATE (41_absorber.md R134). -/

@[simp] theorem padRate_params (s : State) : (padRate s).params = s.params := by simp only [padRate]
@[simp] theorem padRate_midValid (s : State) : (padRate s).midValid = s.midValid := by simp only [padRate]
@[simp] theorem padRate_absTotal (s : State) : (padRate s).absTotal = s.absTotal := by simp only [padRate]
@[simp] theorem padRate_absBlocks (s : State) : (padRate s).absBlocks = s.absBlocks := by simp only [padRate]
@[simp] theorem padRate_flag (s : State) : (padRate s).flag = s.flag := by simp only [padRate]
@[simp] theorem padRate_active (s : State) : (padRate s).active = s.active := by simp only [padRate]
@[simp] theorem padRate_ovf (s : State) : (padRate s).ovf = s.ovf := by simp only [padRate]
@[simp] theorem padRate_mode (s : State) : (padRate s).mode = s.mode := by simp only [padRate]
@[simp] theorem padRate_done (s : State) : (padRate s).done = s.done := by simp only [padRate]
@[simp] theorem padRate_err (s : State) : (padRate s).err = s.err := by simp only [padRate]
@[simp] theorem padRate_irqEn (s : State) : (padRate s).irqEn = s.irqEn := by simp only [padRate]
@[simp] theorem padRate_verifyEn (s : State) : (padRate s).verifyEn = s.verifyEn := by simp only [padRate]
@[simp] theorem padRate_data0 (s : State) : (padRate s).data0 = s.data0 := by simp only [padRate]
@[simp] theorem padRate_mwm (s : State) : (padRate s).mwm = s.mwm := by simp only [padRate]
@[simp] theorem padRate_nworkers (s : State) : (padRate s).nworkers = s.nworkers := by simp only [padRate]
@[simp] theorem padRate_partLo (s : State) : (padRate s).partLo = s.partLo := by simp only [padRate]
@[simp] theorem padRate_partHi (s : State) : (padRate s).partHi = s.partHi := by simp only [padRate]
@[simp] theorem padRate_iterLo (s : State) : (padRate s).iterLo = s.iterLo := by simp only [padRate]
@[simp] theorem padRate_iterHi (s : State) : (padRate s).iterHi = s.iterHi := by simp only [padRate]
@[simp] theorem padRate_ckBase (s : State) : (padRate s).ckBase = s.ckBase := by simp only [padRate]
@[simp] theorem padRate_targetLength (s : State) : (padRate s).targetLength = s.targetLength := by simp only [padRate]
@[simp] theorem padRate_sumLength (s : State) : (padRate s).sumLength = s.sumLength := by simp only [padRate]
@[simp] theorem padRate_cellL (s : State) : (padRate s).cellL = s.cellL := by simp only [padRate]
@[simp] theorem padRate_cellH (s : State) : (padRate s).cellH = s.cellH := by simp only [padRate]
@[simp] theorem padRate_rst (s : State) : (padRate s).rst = s.rst := by simp only [padRate]
@[simp] theorem padRate_readData (s : State) : (padRate s).readData = s.readData := by simp only [padRate]
@[simp] theorem padRate_freeCount (s : State) : (padRate s).freeCount = s.freeCount := by simp only [padRate]
@[simp] theorem padRate_inputs (s : State) : (padRate s).inputs = s.inputs := by simp only [padRate]
@[simp] theorem padRate_snap (s : State) : (padRate s).snap = s.snap := by simp only [padRate]
@[simp] theorem padRate_resultLen (s : State) : (padRate s).resultLen = s.resultLen := by simp only [padRate]
@[simp] theorem padRate_winLane (s : State) : (padRate s).winLane = s.winLane := by simp only [padRate]
@[simp] theorem padRate_winWorker (s : State) : (padRate s).winWorker = s.winWorker := by simp only [padRate]
@[simp] theorem padRate_result (s : State) : (padRate s).result = s.result := by simp only [padRate]
@[simp] theorem padRate_permuteEngine (s : State) : (padRate s).permuteEngine = s.permuteEngine := by simp only [padRate]
@[simp] theorem padRate_closeEngine (s : State) : (padRate s).closeEngine = s.closeEngine := by simp only [padRate]
@[simp] theorem padRate_workers (s : State) : (padRate s).workers = s.workers := by simp only [padRate]

/-! LANE_PATTERN (41_absorber.md R137). -/

@[simp] theorem writePattern_params (off : Nat) (s : State) : (writePattern off s).params = s.params := by simp only [writePattern, State.withMid]
@[simp] theorem writePattern_midValid (off : Nat) (s : State) : (writePattern off s).midValid = s.midValid := by simp only [writePattern, State.withMid]
@[simp] theorem writePattern_absPos (off : Nat) (s : State) : (writePattern off s).absPos = s.absPos := by simp only [writePattern, State.withMid]
@[simp] theorem writePattern_absTotal (off : Nat) (s : State) : (writePattern off s).absTotal = s.absTotal := by simp only [writePattern, State.withMid]
@[simp] theorem writePattern_absBlocks (off : Nat) (s : State) : (writePattern off s).absBlocks = s.absBlocks := by simp only [writePattern, State.withMid]
@[simp] theorem writePattern_flag (off : Nat) (s : State) : (writePattern off s).flag = s.flag := by simp only [writePattern, State.withMid]
@[simp] theorem writePattern_active (off : Nat) (s : State) : (writePattern off s).active = s.active := by simp only [writePattern, State.withMid]
@[simp] theorem writePattern_ovf (off : Nat) (s : State) : (writePattern off s).ovf = s.ovf := by simp only [writePattern, State.withMid]
@[simp] theorem writePattern_mode (off : Nat) (s : State) : (writePattern off s).mode = s.mode := by simp only [writePattern, State.withMid]
@[simp] theorem writePattern_done (off : Nat) (s : State) : (writePattern off s).done = s.done := by simp only [writePattern, State.withMid]
@[simp] theorem writePattern_err (off : Nat) (s : State) : (writePattern off s).err = s.err := by simp only [writePattern, State.withMid]
@[simp] theorem writePattern_irqEn (off : Nat) (s : State) : (writePattern off s).irqEn = s.irqEn := by simp only [writePattern, State.withMid]
@[simp] theorem writePattern_verifyEn (off : Nat) (s : State) : (writePattern off s).verifyEn = s.verifyEn := by simp only [writePattern, State.withMid]
@[simp] theorem writePattern_data0 (off : Nat) (s : State) : (writePattern off s).data0 = s.data0 := by simp only [writePattern, State.withMid]
@[simp] theorem writePattern_mwm (off : Nat) (s : State) : (writePattern off s).mwm = s.mwm := by simp only [writePattern, State.withMid]
@[simp] theorem writePattern_nworkers (off : Nat) (s : State) : (writePattern off s).nworkers = s.nworkers := by simp only [writePattern, State.withMid]
@[simp] theorem writePattern_partLo (off : Nat) (s : State) : (writePattern off s).partLo = s.partLo := by simp only [writePattern, State.withMid]
@[simp] theorem writePattern_partHi (off : Nat) (s : State) : (writePattern off s).partHi = s.partHi := by simp only [writePattern, State.withMid]
@[simp] theorem writePattern_iterLo (off : Nat) (s : State) : (writePattern off s).iterLo = s.iterLo := by simp only [writePattern, State.withMid]
@[simp] theorem writePattern_iterHi (off : Nat) (s : State) : (writePattern off s).iterHi = s.iterHi := by simp only [writePattern, State.withMid]
@[simp] theorem writePattern_ckBase (off : Nat) (s : State) : (writePattern off s).ckBase = s.ckBase := by simp only [writePattern, State.withMid]
@[simp] theorem writePattern_targetLength (off : Nat) (s : State) : (writePattern off s).targetLength = s.targetLength := by simp only [writePattern, State.withMid]
@[simp] theorem writePattern_sumLength (off : Nat) (s : State) : (writePattern off s).sumLength = s.sumLength := by simp only [writePattern, State.withMid]
@[simp] theorem writePattern_cellL (off : Nat) (s : State) : (writePattern off s).cellL = s.cellL := by simp only [writePattern, State.withMid]
@[simp] theorem writePattern_cellH (off : Nat) (s : State) : (writePattern off s).cellH = s.cellH := by simp only [writePattern, State.withMid]
@[simp] theorem writePattern_rst (off : Nat) (s : State) : (writePattern off s).rst = s.rst := by simp only [writePattern, State.withMid]
@[simp] theorem writePattern_readData (off : Nat) (s : State) : (writePattern off s).readData = s.readData := by simp only [writePattern, State.withMid]
@[simp] theorem writePattern_freeCount (off : Nat) (s : State) : (writePattern off s).freeCount = s.freeCount := by simp only [writePattern, State.withMid]
@[simp] theorem writePattern_inputs (off : Nat) (s : State) : (writePattern off s).inputs = s.inputs := by simp only [writePattern, State.withMid]
@[simp] theorem writePattern_snap (off : Nat) (s : State) : (writePattern off s).snap = s.snap := by simp only [writePattern, State.withMid]
@[simp] theorem writePattern_resultLen (off : Nat) (s : State) : (writePattern off s).resultLen = s.resultLen := by simp only [writePattern, State.withMid]
@[simp] theorem writePattern_winLane (off : Nat) (s : State) : (writePattern off s).winLane = s.winLane := by simp only [writePattern, State.withMid]
@[simp] theorem writePattern_winWorker (off : Nat) (s : State) : (writePattern off s).winWorker = s.winWorker := by simp only [writePattern, State.withMid]
@[simp] theorem writePattern_result (off : Nat) (s : State) : (writePattern off s).result = s.result := by simp only [writePattern, State.withMid]
@[simp] theorem writePattern_permuteEngine (off : Nat) (s : State) : (writePattern off s).permuteEngine = s.permuteEngine := by simp only [writePattern, State.withMid]
@[simp] theorem writePattern_closeEngine (off : Nat) (s : State) : (writePattern off s).closeEngine = s.closeEngine := by simp only [writePattern, State.withMid]
@[simp] theorem writePattern_workers (off : Nat) (s : State) : (writePattern off s).workers = s.workers := by simp only [writePattern, State.withMid]

/-! WRITE_CELL (44_host_access.md R222). -/

@[simp] theorem storeStaging_params (idx : Nat) (s : State) : (storeStaging idx s).params = s.params := by simp only [storeStaging, State.withMid]
@[simp] theorem storeStaging_midValid (idx : Nat) (s : State) : (storeStaging idx s).midValid = s.midValid := by simp only [storeStaging, State.withMid]
@[simp] theorem storeStaging_absPos (idx : Nat) (s : State) : (storeStaging idx s).absPos = s.absPos := by simp only [storeStaging, State.withMid]
@[simp] theorem storeStaging_absTotal (idx : Nat) (s : State) : (storeStaging idx s).absTotal = s.absTotal := by simp only [storeStaging, State.withMid]
@[simp] theorem storeStaging_absBlocks (idx : Nat) (s : State) : (storeStaging idx s).absBlocks = s.absBlocks := by simp only [storeStaging, State.withMid]
@[simp] theorem storeStaging_flag (idx : Nat) (s : State) : (storeStaging idx s).flag = s.flag := by simp only [storeStaging, State.withMid]
@[simp] theorem storeStaging_active (idx : Nat) (s : State) : (storeStaging idx s).active = s.active := by simp only [storeStaging, State.withMid]
@[simp] theorem storeStaging_ovf (idx : Nat) (s : State) : (storeStaging idx s).ovf = s.ovf := by simp only [storeStaging, State.withMid]
@[simp] theorem storeStaging_mode (idx : Nat) (s : State) : (storeStaging idx s).mode = s.mode := by simp only [storeStaging, State.withMid]
@[simp] theorem storeStaging_done (idx : Nat) (s : State) : (storeStaging idx s).done = s.done := by simp only [storeStaging, State.withMid]
@[simp] theorem storeStaging_err (idx : Nat) (s : State) : (storeStaging idx s).err = s.err := by simp only [storeStaging, State.withMid]
@[simp] theorem storeStaging_irqEn (idx : Nat) (s : State) : (storeStaging idx s).irqEn = s.irqEn := by simp only [storeStaging, State.withMid]
@[simp] theorem storeStaging_verifyEn (idx : Nat) (s : State) : (storeStaging idx s).verifyEn = s.verifyEn := by simp only [storeStaging, State.withMid]
@[simp] theorem storeStaging_data0 (idx : Nat) (s : State) : (storeStaging idx s).data0 = s.data0 := by simp only [storeStaging, State.withMid]
@[simp] theorem storeStaging_mwm (idx : Nat) (s : State) : (storeStaging idx s).mwm = s.mwm := by simp only [storeStaging, State.withMid]
@[simp] theorem storeStaging_nworkers (idx : Nat) (s : State) : (storeStaging idx s).nworkers = s.nworkers := by simp only [storeStaging, State.withMid]
@[simp] theorem storeStaging_partLo (idx : Nat) (s : State) : (storeStaging idx s).partLo = s.partLo := by simp only [storeStaging, State.withMid]
@[simp] theorem storeStaging_partHi (idx : Nat) (s : State) : (storeStaging idx s).partHi = s.partHi := by simp only [storeStaging, State.withMid]
@[simp] theorem storeStaging_iterLo (idx : Nat) (s : State) : (storeStaging idx s).iterLo = s.iterLo := by simp only [storeStaging, State.withMid]
@[simp] theorem storeStaging_iterHi (idx : Nat) (s : State) : (storeStaging idx s).iterHi = s.iterHi := by simp only [storeStaging, State.withMid]
@[simp] theorem storeStaging_ckBase (idx : Nat) (s : State) : (storeStaging idx s).ckBase = s.ckBase := by simp only [storeStaging, State.withMid]
@[simp] theorem storeStaging_targetLength (idx : Nat) (s : State) : (storeStaging idx s).targetLength = s.targetLength := by simp only [storeStaging, State.withMid]
@[simp] theorem storeStaging_sumLength (idx : Nat) (s : State) : (storeStaging idx s).sumLength = s.sumLength := by simp only [storeStaging, State.withMid]
@[simp] theorem storeStaging_cellL (idx : Nat) (s : State) : (storeStaging idx s).cellL = s.cellL := by simp only [storeStaging, State.withMid]
@[simp] theorem storeStaging_cellH (idx : Nat) (s : State) : (storeStaging idx s).cellH = s.cellH := by simp only [storeStaging, State.withMid]
@[simp] theorem storeStaging_rst (idx : Nat) (s : State) : (storeStaging idx s).rst = s.rst := by simp only [storeStaging, State.withMid]
@[simp] theorem storeStaging_readData (idx : Nat) (s : State) : (storeStaging idx s).readData = s.readData := by simp only [storeStaging, State.withMid]
@[simp] theorem storeStaging_freeCount (idx : Nat) (s : State) : (storeStaging idx s).freeCount = s.freeCount := by simp only [storeStaging, State.withMid]
@[simp] theorem storeStaging_inputs (idx : Nat) (s : State) : (storeStaging idx s).inputs = s.inputs := by simp only [storeStaging, State.withMid]
@[simp] theorem storeStaging_snap (idx : Nat) (s : State) : (storeStaging idx s).snap = s.snap := by simp only [storeStaging, State.withMid]
@[simp] theorem storeStaging_resultLen (idx : Nat) (s : State) : (storeStaging idx s).resultLen = s.resultLen := by simp only [storeStaging, State.withMid]
@[simp] theorem storeStaging_winLane (idx : Nat) (s : State) : (storeStaging idx s).winLane = s.winLane := by simp only [storeStaging, State.withMid]
@[simp] theorem storeStaging_winWorker (idx : Nat) (s : State) : (storeStaging idx s).winWorker = s.winWorker := by simp only [storeStaging, State.withMid]
@[simp] theorem storeStaging_result (idx : Nat) (s : State) : (storeStaging idx s).result = s.result := by simp only [storeStaging, State.withMid]
@[simp] theorem storeStaging_permuteEngine (idx : Nat) (s : State) : (storeStaging idx s).permuteEngine = s.permuteEngine := by simp only [storeStaging, State.withMid]
@[simp] theorem storeStaging_closeEngine (idx : Nat) (s : State) : (storeStaging idx s).closeEngine = s.closeEngine := by simp only [storeStaging, State.withMid]
@[simp] theorem storeStaging_workers (idx : Nat) (s : State) : (storeStaging idx s).workers = s.workers := by simp only [storeStaging, State.withMid]

/-! READ_CELL (44_host_access.md R221). -/

@[simp] theorem loadStaging_params (idx : Nat) (s : State) : (loadStaging idx s).params = s.params := by simp only [loadStaging]
@[simp] theorem loadStaging_midValid (idx : Nat) (s : State) : (loadStaging idx s).midValid = s.midValid := by simp only [loadStaging]
@[simp] theorem loadStaging_absPos (idx : Nat) (s : State) : (loadStaging idx s).absPos = s.absPos := by simp only [loadStaging]
@[simp] theorem loadStaging_absTotal (idx : Nat) (s : State) : (loadStaging idx s).absTotal = s.absTotal := by simp only [loadStaging]
@[simp] theorem loadStaging_absBlocks (idx : Nat) (s : State) : (loadStaging idx s).absBlocks = s.absBlocks := by simp only [loadStaging]
@[simp] theorem loadStaging_flag (idx : Nat) (s : State) : (loadStaging idx s).flag = s.flag := by simp only [loadStaging]
@[simp] theorem loadStaging_active (idx : Nat) (s : State) : (loadStaging idx s).active = s.active := by simp only [loadStaging]
@[simp] theorem loadStaging_ovf (idx : Nat) (s : State) : (loadStaging idx s).ovf = s.ovf := by simp only [loadStaging]
@[simp] theorem loadStaging_mode (idx : Nat) (s : State) : (loadStaging idx s).mode = s.mode := by simp only [loadStaging]
@[simp] theorem loadStaging_done (idx : Nat) (s : State) : (loadStaging idx s).done = s.done := by simp only [loadStaging]
@[simp] theorem loadStaging_err (idx : Nat) (s : State) : (loadStaging idx s).err = s.err := by simp only [loadStaging]
@[simp] theorem loadStaging_irqEn (idx : Nat) (s : State) : (loadStaging idx s).irqEn = s.irqEn := by simp only [loadStaging]
@[simp] theorem loadStaging_verifyEn (idx : Nat) (s : State) : (loadStaging idx s).verifyEn = s.verifyEn := by simp only [loadStaging]
@[simp] theorem loadStaging_data0 (idx : Nat) (s : State) : (loadStaging idx s).data0 = s.data0 := by simp only [loadStaging]
@[simp] theorem loadStaging_mwm (idx : Nat) (s : State) : (loadStaging idx s).mwm = s.mwm := by simp only [loadStaging]
@[simp] theorem loadStaging_nworkers (idx : Nat) (s : State) : (loadStaging idx s).nworkers = s.nworkers := by simp only [loadStaging]
@[simp] theorem loadStaging_partLo (idx : Nat) (s : State) : (loadStaging idx s).partLo = s.partLo := by simp only [loadStaging]
@[simp] theorem loadStaging_partHi (idx : Nat) (s : State) : (loadStaging idx s).partHi = s.partHi := by simp only [loadStaging]
@[simp] theorem loadStaging_iterLo (idx : Nat) (s : State) : (loadStaging idx s).iterLo = s.iterLo := by simp only [loadStaging]
@[simp] theorem loadStaging_iterHi (idx : Nat) (s : State) : (loadStaging idx s).iterHi = s.iterHi := by simp only [loadStaging]
@[simp] theorem loadStaging_ckBase (idx : Nat) (s : State) : (loadStaging idx s).ckBase = s.ckBase := by simp only [loadStaging]
@[simp] theorem loadStaging_targetLength (idx : Nat) (s : State) : (loadStaging idx s).targetLength = s.targetLength := by simp only [loadStaging]
@[simp] theorem loadStaging_sumLength (idx : Nat) (s : State) : (loadStaging idx s).sumLength = s.sumLength := by simp only [loadStaging]
@[simp] theorem loadStaging_rst (idx : Nat) (s : State) : (loadStaging idx s).rst = s.rst := by simp only [loadStaging]
@[simp] theorem loadStaging_readData (idx : Nat) (s : State) : (loadStaging idx s).readData = s.readData := by simp only [loadStaging]
@[simp] theorem loadStaging_freeCount (idx : Nat) (s : State) : (loadStaging idx s).freeCount = s.freeCount := by simp only [loadStaging]
@[simp] theorem loadStaging_inputs (idx : Nat) (s : State) : (loadStaging idx s).inputs = s.inputs := by simp only [loadStaging]
@[simp] theorem loadStaging_snap (idx : Nat) (s : State) : (loadStaging idx s).snap = s.snap := by simp only [loadStaging]
@[simp] theorem loadStaging_resultLen (idx : Nat) (s : State) : (loadStaging idx s).resultLen = s.resultLen := by simp only [loadStaging]
@[simp] theorem loadStaging_winLane (idx : Nat) (s : State) : (loadStaging idx s).winLane = s.winLane := by simp only [loadStaging]
@[simp] theorem loadStaging_winWorker (idx : Nat) (s : State) : (loadStaging idx s).winWorker = s.winWorker := by simp only [loadStaging]
@[simp] theorem loadStaging_result (idx : Nat) (s : State) : (loadStaging idx s).result = s.result := by simp only [loadStaging]
@[simp] theorem loadStaging_permuteEngine (idx : Nat) (s : State) : (loadStaging idx s).permuteEngine = s.permuteEngine := by simp only [loadStaging]
@[simp] theorem loadStaging_closeEngine (idx : Nat) (s : State) : (loadStaging idx s).closeEngine = s.closeEngine := by simp only [loadStaging]
@[simp] theorem loadStaging_workers (idx : Nat) (s : State) : (loadStaging idx s).workers = s.workers := by simp only [loadStaging]
@[simp] theorem loadStaging_mid (idx : Nat) (s : State) : (loadStaging idx s).mid = s.mid := by simp only [loadStaging]

/-! INCREMENT (42_nonce_search.md R155). -/

@[simp] theorem incrementMid_params (lo hi : Nat) (s : State) : (incrementMid lo hi s).params = s.params := by simp only [incrementMid]
@[simp] theorem incrementMid_midValid (lo hi : Nat) (s : State) : (incrementMid lo hi s).midValid = s.midValid := by simp only [incrementMid]
@[simp] theorem incrementMid_absPos (lo hi : Nat) (s : State) : (incrementMid lo hi s).absPos = s.absPos := by simp only [incrementMid]
@[simp] theorem incrementMid_absTotal (lo hi : Nat) (s : State) : (incrementMid lo hi s).absTotal = s.absTotal := by simp only [incrementMid]
@[simp] theorem incrementMid_absBlocks (lo hi : Nat) (s : State) : (incrementMid lo hi s).absBlocks = s.absBlocks := by simp only [incrementMid]
@[simp] theorem incrementMid_flag (lo hi : Nat) (s : State) : (incrementMid lo hi s).flag = s.flag := by simp only [incrementMid]
@[simp] theorem incrementMid_active (lo hi : Nat) (s : State) : (incrementMid lo hi s).active = s.active := by simp only [incrementMid]
@[simp] theorem incrementMid_mode (lo hi : Nat) (s : State) : (incrementMid lo hi s).mode = s.mode := by simp only [incrementMid]
@[simp] theorem incrementMid_done (lo hi : Nat) (s : State) : (incrementMid lo hi s).done = s.done := by simp only [incrementMid]
@[simp] theorem incrementMid_err (lo hi : Nat) (s : State) : (incrementMid lo hi s).err = s.err := by simp only [incrementMid]
@[simp] theorem incrementMid_irqEn (lo hi : Nat) (s : State) : (incrementMid lo hi s).irqEn = s.irqEn := by simp only [incrementMid]
@[simp] theorem incrementMid_verifyEn (lo hi : Nat) (s : State) : (incrementMid lo hi s).verifyEn = s.verifyEn := by simp only [incrementMid]
@[simp] theorem incrementMid_data0 (lo hi : Nat) (s : State) : (incrementMid lo hi s).data0 = s.data0 := by simp only [incrementMid]
@[simp] theorem incrementMid_mwm (lo hi : Nat) (s : State) : (incrementMid lo hi s).mwm = s.mwm := by simp only [incrementMid]
@[simp] theorem incrementMid_nworkers (lo hi : Nat) (s : State) : (incrementMid lo hi s).nworkers = s.nworkers := by simp only [incrementMid]
@[simp] theorem incrementMid_partLo (lo hi : Nat) (s : State) : (incrementMid lo hi s).partLo = s.partLo := by simp only [incrementMid]
@[simp] theorem incrementMid_partHi (lo hi : Nat) (s : State) : (incrementMid lo hi s).partHi = s.partHi := by simp only [incrementMid]
@[simp] theorem incrementMid_iterLo (lo hi : Nat) (s : State) : (incrementMid lo hi s).iterLo = s.iterLo := by simp only [incrementMid]
@[simp] theorem incrementMid_iterHi (lo hi : Nat) (s : State) : (incrementMid lo hi s).iterHi = s.iterHi := by simp only [incrementMid]
@[simp] theorem incrementMid_ckBase (lo hi : Nat) (s : State) : (incrementMid lo hi s).ckBase = s.ckBase := by simp only [incrementMid]
@[simp] theorem incrementMid_targetLength (lo hi : Nat) (s : State) : (incrementMid lo hi s).targetLength = s.targetLength := by simp only [incrementMid]
@[simp] theorem incrementMid_sumLength (lo hi : Nat) (s : State) : (incrementMid lo hi s).sumLength = s.sumLength := by simp only [incrementMid]
@[simp] theorem incrementMid_cellL (lo hi : Nat) (s : State) : (incrementMid lo hi s).cellL = s.cellL := by simp only [incrementMid]
@[simp] theorem incrementMid_cellH (lo hi : Nat) (s : State) : (incrementMid lo hi s).cellH = s.cellH := by simp only [incrementMid]
@[simp] theorem incrementMid_rst (lo hi : Nat) (s : State) : (incrementMid lo hi s).rst = s.rst := by simp only [incrementMid]
@[simp] theorem incrementMid_readData (lo hi : Nat) (s : State) : (incrementMid lo hi s).readData = s.readData := by simp only [incrementMid]
@[simp] theorem incrementMid_freeCount (lo hi : Nat) (s : State) : (incrementMid lo hi s).freeCount = s.freeCount := by simp only [incrementMid]
@[simp] theorem incrementMid_inputs (lo hi : Nat) (s : State) : (incrementMid lo hi s).inputs = s.inputs := by simp only [incrementMid]
@[simp] theorem incrementMid_snap (lo hi : Nat) (s : State) : (incrementMid lo hi s).snap = s.snap := by simp only [incrementMid]
@[simp] theorem incrementMid_resultLen (lo hi : Nat) (s : State) : (incrementMid lo hi s).resultLen = s.resultLen := by simp only [incrementMid]
@[simp] theorem incrementMid_winLane (lo hi : Nat) (s : State) : (incrementMid lo hi s).winLane = s.winLane := by simp only [incrementMid]
@[simp] theorem incrementMid_winWorker (lo hi : Nat) (s : State) : (incrementMid lo hi s).winWorker = s.winWorker := by simp only [incrementMid]
@[simp] theorem incrementMid_result (lo hi : Nat) (s : State) : (incrementMid lo hi s).result = s.result := by simp only [incrementMid]
@[simp] theorem incrementMid_permuteEngine (lo hi : Nat) (s : State) : (incrementMid lo hi s).permuteEngine = s.permuteEngine := by simp only [incrementMid]
@[simp] theorem incrementMid_closeEngine (lo hi : Nat) (s : State) : (incrementMid lo hi s).closeEngine = s.closeEngine := by simp only [incrementMid]
@[simp] theorem incrementMid_workers (lo hi : Nat) (s : State) : (incrementMid lo hi s).workers = s.workers := by simp only [incrementMid]

/-! StartSearch (42_nonce_search.md R179). -/

@[simp] theorem startSearch_params (m : Mode) (n : Nat) (s : State) : (startSearch m n s).params = s.params := by simp only [startSearch]
@[simp] theorem startSearch_midValid (m : Mode) (n : Nat) (s : State) : (startSearch m n s).midValid = s.midValid := by simp only [startSearch]
@[simp] theorem startSearch_absPos (m : Mode) (n : Nat) (s : State) : (startSearch m n s).absPos = s.absPos := by simp only [startSearch]
@[simp] theorem startSearch_absTotal (m : Mode) (n : Nat) (s : State) : (startSearch m n s).absTotal = s.absTotal := by simp only [startSearch]
@[simp] theorem startSearch_absBlocks (m : Mode) (n : Nat) (s : State) : (startSearch m n s).absBlocks = s.absBlocks := by simp only [startSearch]
@[simp] theorem startSearch_ovf (m : Mode) (n : Nat) (s : State) : (startSearch m n s).ovf = s.ovf := by simp only [startSearch]
@[simp] theorem startSearch_err (m : Mode) (n : Nat) (s : State) : (startSearch m n s).err = s.err := by simp only [startSearch]
@[simp] theorem startSearch_irqEn (m : Mode) (n : Nat) (s : State) : (startSearch m n s).irqEn = s.irqEn := by simp only [startSearch]
@[simp] theorem startSearch_verifyEn (m : Mode) (n : Nat) (s : State) : (startSearch m n s).verifyEn = s.verifyEn := by simp only [startSearch]
@[simp] theorem startSearch_data0 (m : Mode) (n : Nat) (s : State) : (startSearch m n s).data0 = s.data0 := by simp only [startSearch]
@[simp] theorem startSearch_mwm (m : Mode) (n : Nat) (s : State) : (startSearch m n s).mwm = s.mwm := by simp only [startSearch]
@[simp] theorem startSearch_nworkers (m : Mode) (n : Nat) (s : State) : (startSearch m n s).nworkers = s.nworkers := by simp only [startSearch]
@[simp] theorem startSearch_partLo (m : Mode) (n : Nat) (s : State) : (startSearch m n s).partLo = s.partLo := by simp only [startSearch]
@[simp] theorem startSearch_partHi (m : Mode) (n : Nat) (s : State) : (startSearch m n s).partHi = s.partHi := by simp only [startSearch]
@[simp] theorem startSearch_iterLo (m : Mode) (n : Nat) (s : State) : (startSearch m n s).iterLo = s.iterLo := by simp only [startSearch]
@[simp] theorem startSearch_iterHi (m : Mode) (n : Nat) (s : State) : (startSearch m n s).iterHi = s.iterHi := by simp only [startSearch]
@[simp] theorem startSearch_ckBase (m : Mode) (n : Nat) (s : State) : (startSearch m n s).ckBase = s.ckBase := by simp only [startSearch]
@[simp] theorem startSearch_targetLength (m : Mode) (n : Nat) (s : State) : (startSearch m n s).targetLength = s.targetLength := by simp only [startSearch]
@[simp] theorem startSearch_sumLength (m : Mode) (n : Nat) (s : State) : (startSearch m n s).sumLength = s.sumLength := by simp only [startSearch]
@[simp] theorem startSearch_cellL (m : Mode) (n : Nat) (s : State) : (startSearch m n s).cellL = s.cellL := by simp only [startSearch]
@[simp] theorem startSearch_cellH (m : Mode) (n : Nat) (s : State) : (startSearch m n s).cellH = s.cellH := by simp only [startSearch]
@[simp] theorem startSearch_rst (m : Mode) (n : Nat) (s : State) : (startSearch m n s).rst = s.rst := by simp only [startSearch]
@[simp] theorem startSearch_readData (m : Mode) (n : Nat) (s : State) : (startSearch m n s).readData = s.readData := by simp only [startSearch]
@[simp] theorem startSearch_freeCount (m : Mode) (n : Nat) (s : State) : (startSearch m n s).freeCount = s.freeCount := by simp only [startSearch]
@[simp] theorem startSearch_inputs (m : Mode) (n : Nat) (s : State) : (startSearch m n s).inputs = s.inputs := by simp only [startSearch]
@[simp] theorem startSearch_permuteEngine (m : Mode) (n : Nat) (s : State) : (startSearch m n s).permuteEngine = s.permuteEngine := by simp only [startSearch]
@[simp] theorem startSearch_closeEngine (m : Mode) (n : Nat) (s : State) : (startSearch m n s).closeEngine = s.closeEngine := by simp only [startSearch]
@[simp] theorem startSearch_mid (m : Mode) (n : Nat) (s : State) : (startSearch m n s).mid = s.mid := by simp only [startSearch]

/-! CANCEL (42_nonce_search.md R186). -/

@[simp] theorem cancelSearch_params (s : State) : (cancelSearch s).params = s.params := by simp only [cancelSearch]
@[simp] theorem cancelSearch_midValid (s : State) : (cancelSearch s).midValid = s.midValid := by simp only [cancelSearch]
@[simp] theorem cancelSearch_absPos (s : State) : (cancelSearch s).absPos = s.absPos := by simp only [cancelSearch]
@[simp] theorem cancelSearch_absTotal (s : State) : (cancelSearch s).absTotal = s.absTotal := by simp only [cancelSearch]
@[simp] theorem cancelSearch_absBlocks (s : State) : (cancelSearch s).absBlocks = s.absBlocks := by simp only [cancelSearch]
@[simp] theorem cancelSearch_active (s : State) : (cancelSearch s).active = s.active := by simp only [cancelSearch]
@[simp] theorem cancelSearch_ovf (s : State) : (cancelSearch s).ovf = s.ovf := by simp only [cancelSearch]
@[simp] theorem cancelSearch_mode (s : State) : (cancelSearch s).mode = s.mode := by simp only [cancelSearch]
@[simp] theorem cancelSearch_done (s : State) : (cancelSearch s).done = s.done := by simp only [cancelSearch]
@[simp] theorem cancelSearch_err (s : State) : (cancelSearch s).err = s.err := by simp only [cancelSearch]
@[simp] theorem cancelSearch_irqEn (s : State) : (cancelSearch s).irqEn = s.irqEn := by simp only [cancelSearch]
@[simp] theorem cancelSearch_verifyEn (s : State) : (cancelSearch s).verifyEn = s.verifyEn := by simp only [cancelSearch]
@[simp] theorem cancelSearch_data0 (s : State) : (cancelSearch s).data0 = s.data0 := by simp only [cancelSearch]
@[simp] theorem cancelSearch_mwm (s : State) : (cancelSearch s).mwm = s.mwm := by simp only [cancelSearch]
@[simp] theorem cancelSearch_nworkers (s : State) : (cancelSearch s).nworkers = s.nworkers := by simp only [cancelSearch]
@[simp] theorem cancelSearch_partLo (s : State) : (cancelSearch s).partLo = s.partLo := by simp only [cancelSearch]
@[simp] theorem cancelSearch_partHi (s : State) : (cancelSearch s).partHi = s.partHi := by simp only [cancelSearch]
@[simp] theorem cancelSearch_iterLo (s : State) : (cancelSearch s).iterLo = s.iterLo := by simp only [cancelSearch]
@[simp] theorem cancelSearch_iterHi (s : State) : (cancelSearch s).iterHi = s.iterHi := by simp only [cancelSearch]
@[simp] theorem cancelSearch_ckBase (s : State) : (cancelSearch s).ckBase = s.ckBase := by simp only [cancelSearch]
@[simp] theorem cancelSearch_targetLength (s : State) : (cancelSearch s).targetLength = s.targetLength := by simp only [cancelSearch]
@[simp] theorem cancelSearch_sumLength (s : State) : (cancelSearch s).sumLength = s.sumLength := by simp only [cancelSearch]
@[simp] theorem cancelSearch_cellL (s : State) : (cancelSearch s).cellL = s.cellL := by simp only [cancelSearch]
@[simp] theorem cancelSearch_cellH (s : State) : (cancelSearch s).cellH = s.cellH := by simp only [cancelSearch]
@[simp] theorem cancelSearch_rst (s : State) : (cancelSearch s).rst = s.rst := by simp only [cancelSearch]
@[simp] theorem cancelSearch_readData (s : State) : (cancelSearch s).readData = s.readData := by simp only [cancelSearch]
@[simp] theorem cancelSearch_freeCount (s : State) : (cancelSearch s).freeCount = s.freeCount := by simp only [cancelSearch]
@[simp] theorem cancelSearch_inputs (s : State) : (cancelSearch s).inputs = s.inputs := by simp only [cancelSearch]
@[simp] theorem cancelSearch_snap (s : State) : (cancelSearch s).snap = s.snap := by simp only [cancelSearch]
@[simp] theorem cancelSearch_resultLen (s : State) : (cancelSearch s).resultLen = s.resultLen := by simp only [cancelSearch]
@[simp] theorem cancelSearch_winLane (s : State) : (cancelSearch s).winLane = s.winLane := by simp only [cancelSearch]
@[simp] theorem cancelSearch_winWorker (s : State) : (cancelSearch s).winWorker = s.winWorker := by simp only [cancelSearch]
@[simp] theorem cancelSearch_result (s : State) : (cancelSearch s).result = s.result := by simp only [cancelSearch]
@[simp] theorem cancelSearch_permuteEngine (s : State) : (cancelSearch s).permuteEngine = s.permuteEngine := by simp only [cancelSearch]
@[simp] theorem cancelSearch_closeEngine (s : State) : (cancelSearch s).closeEngine = s.closeEngine := by simp only [cancelSearch]
@[simp] theorem cancelSearch_workers (s : State) : (cancelSearch s).workers = s.workers := by simp only [cancelSearch]
@[simp] theorem cancelSearch_mid (s : State) : (cancelSearch s).mid = s.mid := by simp only [cancelSearch]

/-! A winning Claim (42_nonce_search.md R184). -/

@[simp] theorem winSearch_params (w : Nat) (s : State) : (winSearch w s).params = s.params := by simp only [winSearch]
@[simp] theorem winSearch_midValid (w : Nat) (s : State) : (winSearch w s).midValid = s.midValid := by simp only [winSearch]
@[simp] theorem winSearch_absPos (w : Nat) (s : State) : (winSearch w s).absPos = s.absPos := by simp only [winSearch]
@[simp] theorem winSearch_absTotal (w : Nat) (s : State) : (winSearch w s).absTotal = s.absTotal := by simp only [winSearch]
@[simp] theorem winSearch_absBlocks (w : Nat) (s : State) : (winSearch w s).absBlocks = s.absBlocks := by simp only [winSearch]
@[simp] theorem winSearch_active (w : Nat) (s : State) : (winSearch w s).active = s.active := by simp only [winSearch]
@[simp] theorem winSearch_ovf (w : Nat) (s : State) : (winSearch w s).ovf = s.ovf := by simp only [winSearch]
@[simp] theorem winSearch_mode (w : Nat) (s : State) : (winSearch w s).mode = s.mode := by simp only [winSearch]
@[simp] theorem winSearch_done (w : Nat) (s : State) : (winSearch w s).done = s.done := by simp only [winSearch]
@[simp] theorem winSearch_err (w : Nat) (s : State) : (winSearch w s).err = s.err := by simp only [winSearch]
@[simp] theorem winSearch_irqEn (w : Nat) (s : State) : (winSearch w s).irqEn = s.irqEn := by simp only [winSearch]
@[simp] theorem winSearch_verifyEn (w : Nat) (s : State) : (winSearch w s).verifyEn = s.verifyEn := by simp only [winSearch]
@[simp] theorem winSearch_data0 (w : Nat) (s : State) : (winSearch w s).data0 = s.data0 := by simp only [winSearch]
@[simp] theorem winSearch_mwm (w : Nat) (s : State) : (winSearch w s).mwm = s.mwm := by simp only [winSearch]
@[simp] theorem winSearch_nworkers (w : Nat) (s : State) : (winSearch w s).nworkers = s.nworkers := by simp only [winSearch]
@[simp] theorem winSearch_partLo (w : Nat) (s : State) : (winSearch w s).partLo = s.partLo := by simp only [winSearch]
@[simp] theorem winSearch_partHi (w : Nat) (s : State) : (winSearch w s).partHi = s.partHi := by simp only [winSearch]
@[simp] theorem winSearch_iterLo (w : Nat) (s : State) : (winSearch w s).iterLo = s.iterLo := by simp only [winSearch]
@[simp] theorem winSearch_iterHi (w : Nat) (s : State) : (winSearch w s).iterHi = s.iterHi := by simp only [winSearch]
@[simp] theorem winSearch_ckBase (w : Nat) (s : State) : (winSearch w s).ckBase = s.ckBase := by simp only [winSearch]
@[simp] theorem winSearch_targetLength (w : Nat) (s : State) : (winSearch w s).targetLength = s.targetLength := by simp only [winSearch]
@[simp] theorem winSearch_sumLength (w : Nat) (s : State) : (winSearch w s).sumLength = s.sumLength := by simp only [winSearch]
@[simp] theorem winSearch_cellL (w : Nat) (s : State) : (winSearch w s).cellL = s.cellL := by simp only [winSearch]
@[simp] theorem winSearch_cellH (w : Nat) (s : State) : (winSearch w s).cellH = s.cellH := by simp only [winSearch]
@[simp] theorem winSearch_rst (w : Nat) (s : State) : (winSearch w s).rst = s.rst := by simp only [winSearch]
@[simp] theorem winSearch_readData (w : Nat) (s : State) : (winSearch w s).readData = s.readData := by simp only [winSearch]
@[simp] theorem winSearch_freeCount (w : Nat) (s : State) : (winSearch w s).freeCount = s.freeCount := by simp only [winSearch]
@[simp] theorem winSearch_inputs (w : Nat) (s : State) : (winSearch w s).inputs = s.inputs := by simp only [winSearch]
@[simp] theorem winSearch_snap (w : Nat) (s : State) : (winSearch w s).snap = s.snap := by simp only [winSearch]
@[simp] theorem winSearch_permuteEngine (w : Nat) (s : State) : (winSearch w s).permuteEngine = s.permuteEngine := by simp only [winSearch]
@[simp] theorem winSearch_closeEngine (w : Nat) (s : State) : (winSearch w s).closeEngine = s.closeEngine := by simp only [winSearch]
@[simp] theorem winSearch_workers (w : Nat) (s : State) : (winSearch w s).workers = s.workers := by simp only [winSearch]
@[simp] theorem winSearch_mid (w : Nat) (s : State) : (winSearch w s).mid = s.mid := by simp only [winSearch]

/-! What the two block ends write. -/

theorem closeBlock_mid (s : State) : (closeBlock s).mid = (runTransform s.closeEngine s.mid).2 := by
  simp only [closeBlock, finishBlock]
theorem permuteMid_mid (s : State) : (permuteMid s).mid = (runTransform s.permuteEngine s.mid).2 := by
  simp only [permuteMid, finishBlock]
@[simp] theorem closeBlock_absPos (s : State) : (closeBlock s).absPos = 0 := by simp only [closeBlock, finishBlock]
@[simp] theorem permuteMid_absPos (s : State) : (permuteMid s).absPos = 0 := by simp only [permuteMid, finishBlock]
@[simp] theorem closeBlock_absBlocks (s : State) : (closeBlock s).absBlocks = s.absBlocks + 1#32 := by
  simp only [closeBlock, finishBlock]
@[simp] theorem permuteMid_absBlocks (s : State) : (permuteMid s).absBlocks = s.absBlocks + 1#32 := by
  simp only [permuteMid, finishBlock]

end Sys2Proof.Machine
end

