-- ==== Sys2Proof/Laws/State.lean ====
section
/-! SUPPORT. One lemma per field per named update of State, each true by rfl, so that no proof unfolds a record
update; and what the named readers see of an update. -/

namespace Sys2Proof.Machine

@[simp] theorem State.withErr_params (s : State) (e : ErrCode) : (s.withErr e).params = s.params := rfl
@[simp] theorem State.withErr_mid (s : State) (e : ErrCode) : (s.withErr e).mid = s.mid := rfl
@[simp] theorem State.withErr_midValid (s : State) (e : ErrCode) : (s.withErr e).midValid = s.midValid := rfl
@[simp] theorem State.withErr_permuteEngine (s : State) (e : ErrCode) : (s.withErr e).permuteEngine = s.permuteEngine := rfl
@[simp] theorem State.withErr_closeEngine (s : State) (e : ErrCode) : (s.withErr e).closeEngine = s.closeEngine := rfl
@[simp] theorem State.withErr_absPos (s : State) (e : ErrCode) : (s.withErr e).absPos = s.absPos := rfl
@[simp] theorem State.withErr_absTotal (s : State) (e : ErrCode) : (s.withErr e).absTotal = s.absTotal := rfl
@[simp] theorem State.withErr_absBlocks (s : State) (e : ErrCode) : (s.withErr e).absBlocks = s.absBlocks := rfl
@[simp] theorem State.withErr_workers (s : State) (e : ErrCode) : (s.withErr e).workers = s.workers := rfl
@[simp] theorem State.withErr_snap (s : State) (e : ErrCode) : (s.withErr e).snap = s.snap := rfl
@[simp] theorem State.withErr_flag (s : State) (e : ErrCode) : (s.withErr e).flag = s.flag := rfl
@[simp] theorem State.withErr_active (s : State) (e : ErrCode) : (s.withErr e).active = s.active := rfl
@[simp] theorem State.withErr_result (s : State) (e : ErrCode) : (s.withErr e).result = s.result := rfl
@[simp] theorem State.withErr_resultLen (s : State) (e : ErrCode) : (s.withErr e).resultLen = s.resultLen := rfl
@[simp] theorem State.withErr_winLane (s : State) (e : ErrCode) : (s.withErr e).winLane = s.winLane := rfl
@[simp] theorem State.withErr_winWorker (s : State) (e : ErrCode) : (s.withErr e).winWorker = s.winWorker := rfl
@[simp] theorem State.withErr_ovf (s : State) (e : ErrCode) : (s.withErr e).ovf = s.ovf := rfl
@[simp] theorem State.withErr_mode (s : State) (e : ErrCode) : (s.withErr e).mode = s.mode := rfl
@[simp] theorem State.withErr_done (s : State) (e : ErrCode) : (s.withErr e).done = s.done := rfl
@[simp] theorem State.withErr_err (s : State) (e : ErrCode) : (s.withErr e).err = e := rfl
@[simp] theorem State.withErr_irqEn (s : State) (e : ErrCode) : (s.withErr e).irqEn = s.irqEn := rfl
@[simp] theorem State.withErr_verifyEn (s : State) (e : ErrCode) : (s.withErr e).verifyEn = s.verifyEn := rfl
@[simp] theorem State.withErr_data0 (s : State) (e : ErrCode) : (s.withErr e).data0 = s.data0 := rfl
@[simp] theorem State.withErr_mwm (s : State) (e : ErrCode) : (s.withErr e).mwm = s.mwm := rfl
@[simp] theorem State.withErr_nworkers (s : State) (e : ErrCode) : (s.withErr e).nworkers = s.nworkers := rfl
@[simp] theorem State.withErr_partLo (s : State) (e : ErrCode) : (s.withErr e).partLo = s.partLo := rfl
@[simp] theorem State.withErr_partHi (s : State) (e : ErrCode) : (s.withErr e).partHi = s.partHi := rfl
@[simp] theorem State.withErr_iterLo (s : State) (e : ErrCode) : (s.withErr e).iterLo = s.iterLo := rfl
@[simp] theorem State.withErr_iterHi (s : State) (e : ErrCode) : (s.withErr e).iterHi = s.iterHi := rfl
@[simp] theorem State.withErr_ckBase (s : State) (e : ErrCode) : (s.withErr e).ckBase = s.ckBase := rfl
@[simp] theorem State.withErr_targetLength (s : State) (e : ErrCode) : (s.withErr e).targetLength = s.targetLength := rfl
@[simp] theorem State.withErr_sumLength (s : State) (e : ErrCode) : (s.withErr e).sumLength = s.sumLength := rfl
@[simp] theorem State.withErr_cellL (s : State) (e : ErrCode) : (s.withErr e).cellL = s.cellL := rfl
@[simp] theorem State.withErr_cellH (s : State) (e : ErrCode) : (s.withErr e).cellH = s.cellH := rfl
@[simp] theorem State.withErr_rst (s : State) (e : ErrCode) : (s.withErr e).rst = s.rst := rfl
@[simp] theorem State.withErr_readData (s : State) (e : ErrCode) : (s.withErr e).readData = s.readData := rfl
@[simp] theorem State.withErr_inputs (s : State) (e : ErrCode) : (s.withErr e).inputs = s.inputs := rfl
@[simp] theorem State.withErr_freeCount (s : State) (e : ErrCode) : (s.withErr e).freeCount = s.freeCount := rfl

@[simp] theorem State.withMid_params (s : State) (B : Buffer) : (s.withMid B).params = s.params := rfl
@[simp] theorem State.withMid_mid (s : State) (B : Buffer) : (s.withMid B).mid = B := rfl
@[simp] theorem State.withMid_midValid (s : State) (B : Buffer) : (s.withMid B).midValid = s.midValid := rfl
@[simp] theorem State.withMid_permuteEngine (s : State) (B : Buffer) : (s.withMid B).permuteEngine = s.permuteEngine := rfl
@[simp] theorem State.withMid_closeEngine (s : State) (B : Buffer) : (s.withMid B).closeEngine = s.closeEngine := rfl
@[simp] theorem State.withMid_absPos (s : State) (B : Buffer) : (s.withMid B).absPos = s.absPos := rfl
@[simp] theorem State.withMid_absTotal (s : State) (B : Buffer) : (s.withMid B).absTotal = s.absTotal := rfl
@[simp] theorem State.withMid_absBlocks (s : State) (B : Buffer) : (s.withMid B).absBlocks = s.absBlocks := rfl
@[simp] theorem State.withMid_workers (s : State) (B : Buffer) : (s.withMid B).workers = s.workers := rfl
@[simp] theorem State.withMid_snap (s : State) (B : Buffer) : (s.withMid B).snap = s.snap := rfl
@[simp] theorem State.withMid_flag (s : State) (B : Buffer) : (s.withMid B).flag = s.flag := rfl
@[simp] theorem State.withMid_active (s : State) (B : Buffer) : (s.withMid B).active = s.active := rfl
@[simp] theorem State.withMid_result (s : State) (B : Buffer) : (s.withMid B).result = s.result := rfl
@[simp] theorem State.withMid_resultLen (s : State) (B : Buffer) : (s.withMid B).resultLen = s.resultLen := rfl
@[simp] theorem State.withMid_winLane (s : State) (B : Buffer) : (s.withMid B).winLane = s.winLane := rfl
@[simp] theorem State.withMid_winWorker (s : State) (B : Buffer) : (s.withMid B).winWorker = s.winWorker := rfl
@[simp] theorem State.withMid_ovf (s : State) (B : Buffer) : (s.withMid B).ovf = s.ovf := rfl
@[simp] theorem State.withMid_mode (s : State) (B : Buffer) : (s.withMid B).mode = s.mode := rfl
@[simp] theorem State.withMid_done (s : State) (B : Buffer) : (s.withMid B).done = s.done := rfl
@[simp] theorem State.withMid_err (s : State) (B : Buffer) : (s.withMid B).err = s.err := rfl
@[simp] theorem State.withMid_irqEn (s : State) (B : Buffer) : (s.withMid B).irqEn = s.irqEn := rfl
@[simp] theorem State.withMid_verifyEn (s : State) (B : Buffer) : (s.withMid B).verifyEn = s.verifyEn := rfl
@[simp] theorem State.withMid_data0 (s : State) (B : Buffer) : (s.withMid B).data0 = s.data0 := rfl
@[simp] theorem State.withMid_mwm (s : State) (B : Buffer) : (s.withMid B).mwm = s.mwm := rfl
@[simp] theorem State.withMid_nworkers (s : State) (B : Buffer) : (s.withMid B).nworkers = s.nworkers := rfl
@[simp] theorem State.withMid_partLo (s : State) (B : Buffer) : (s.withMid B).partLo = s.partLo := rfl
@[simp] theorem State.withMid_partHi (s : State) (B : Buffer) : (s.withMid B).partHi = s.partHi := rfl
@[simp] theorem State.withMid_iterLo (s : State) (B : Buffer) : (s.withMid B).iterLo = s.iterLo := rfl
@[simp] theorem State.withMid_iterHi (s : State) (B : Buffer) : (s.withMid B).iterHi = s.iterHi := rfl
@[simp] theorem State.withMid_ckBase (s : State) (B : Buffer) : (s.withMid B).ckBase = s.ckBase := rfl
@[simp] theorem State.withMid_targetLength (s : State) (B : Buffer) : (s.withMid B).targetLength = s.targetLength := rfl
@[simp] theorem State.withMid_sumLength (s : State) (B : Buffer) : (s.withMid B).sumLength = s.sumLength := rfl
@[simp] theorem State.withMid_cellL (s : State) (B : Buffer) : (s.withMid B).cellL = s.cellL := rfl
@[simp] theorem State.withMid_cellH (s : State) (B : Buffer) : (s.withMid B).cellH = s.cellH := rfl
@[simp] theorem State.withMid_rst (s : State) (B : Buffer) : (s.withMid B).rst = s.rst := rfl
@[simp] theorem State.withMid_readData (s : State) (B : Buffer) : (s.withMid B).readData = s.readData := rfl
@[simp] theorem State.withMid_inputs (s : State) (B : Buffer) : (s.withMid B).inputs = s.inputs := rfl
@[simp] theorem State.withMid_freeCount (s : State) (B : Buffer) : (s.withMid B).freeCount = s.freeCount := rfl

@[simp] theorem State.withInputs_params (s : State) (l : List Input) : (s.withInputs l).params = s.params := rfl
@[simp] theorem State.withInputs_mid (s : State) (l : List Input) : (s.withInputs l).mid = s.mid := rfl
@[simp] theorem State.withInputs_midValid (s : State) (l : List Input) : (s.withInputs l).midValid = s.midValid := rfl
@[simp] theorem State.withInputs_permuteEngine (s : State) (l : List Input) : (s.withInputs l).permuteEngine = s.permuteEngine := rfl
@[simp] theorem State.withInputs_closeEngine (s : State) (l : List Input) : (s.withInputs l).closeEngine = s.closeEngine := rfl
@[simp] theorem State.withInputs_absPos (s : State) (l : List Input) : (s.withInputs l).absPos = s.absPos := rfl
@[simp] theorem State.withInputs_absTotal (s : State) (l : List Input) : (s.withInputs l).absTotal = s.absTotal := rfl
@[simp] theorem State.withInputs_absBlocks (s : State) (l : List Input) : (s.withInputs l).absBlocks = s.absBlocks := rfl
@[simp] theorem State.withInputs_workers (s : State) (l : List Input) : (s.withInputs l).workers = s.workers := rfl
@[simp] theorem State.withInputs_snap (s : State) (l : List Input) : (s.withInputs l).snap = s.snap := rfl
@[simp] theorem State.withInputs_flag (s : State) (l : List Input) : (s.withInputs l).flag = s.flag := rfl
@[simp] theorem State.withInputs_active (s : State) (l : List Input) : (s.withInputs l).active = s.active := rfl
@[simp] theorem State.withInputs_result (s : State) (l : List Input) : (s.withInputs l).result = s.result := rfl
@[simp] theorem State.withInputs_resultLen (s : State) (l : List Input) : (s.withInputs l).resultLen = s.resultLen := rfl
@[simp] theorem State.withInputs_winLane (s : State) (l : List Input) : (s.withInputs l).winLane = s.winLane := rfl
@[simp] theorem State.withInputs_winWorker (s : State) (l : List Input) : (s.withInputs l).winWorker = s.winWorker := rfl
@[simp] theorem State.withInputs_ovf (s : State) (l : List Input) : (s.withInputs l).ovf = s.ovf := rfl
@[simp] theorem State.withInputs_mode (s : State) (l : List Input) : (s.withInputs l).mode = s.mode := rfl
@[simp] theorem State.withInputs_done (s : State) (l : List Input) : (s.withInputs l).done = s.done := rfl
@[simp] theorem State.withInputs_err (s : State) (l : List Input) : (s.withInputs l).err = s.err := rfl
@[simp] theorem State.withInputs_irqEn (s : State) (l : List Input) : (s.withInputs l).irqEn = s.irqEn := rfl
@[simp] theorem State.withInputs_verifyEn (s : State) (l : List Input) : (s.withInputs l).verifyEn = s.verifyEn := rfl
@[simp] theorem State.withInputs_data0 (s : State) (l : List Input) : (s.withInputs l).data0 = s.data0 := rfl
@[simp] theorem State.withInputs_mwm (s : State) (l : List Input) : (s.withInputs l).mwm = s.mwm := rfl
@[simp] theorem State.withInputs_nworkers (s : State) (l : List Input) : (s.withInputs l).nworkers = s.nworkers := rfl
@[simp] theorem State.withInputs_partLo (s : State) (l : List Input) : (s.withInputs l).partLo = s.partLo := rfl
@[simp] theorem State.withInputs_partHi (s : State) (l : List Input) : (s.withInputs l).partHi = s.partHi := rfl
@[simp] theorem State.withInputs_iterLo (s : State) (l : List Input) : (s.withInputs l).iterLo = s.iterLo := rfl
@[simp] theorem State.withInputs_iterHi (s : State) (l : List Input) : (s.withInputs l).iterHi = s.iterHi := rfl
@[simp] theorem State.withInputs_ckBase (s : State) (l : List Input) : (s.withInputs l).ckBase = s.ckBase := rfl
@[simp] theorem State.withInputs_targetLength (s : State) (l : List Input) : (s.withInputs l).targetLength = s.targetLength := rfl
@[simp] theorem State.withInputs_sumLength (s : State) (l : List Input) : (s.withInputs l).sumLength = s.sumLength := rfl
@[simp] theorem State.withInputs_cellL (s : State) (l : List Input) : (s.withInputs l).cellL = s.cellL := rfl
@[simp] theorem State.withInputs_cellH (s : State) (l : List Input) : (s.withInputs l).cellH = s.cellH := rfl
@[simp] theorem State.withInputs_rst (s : State) (l : List Input) : (s.withInputs l).rst = s.rst := rfl
@[simp] theorem State.withInputs_readData (s : State) (l : List Input) : (s.withInputs l).readData = s.readData := rfl
@[simp] theorem State.withInputs_inputs (s : State) (l : List Input) : (s.withInputs l).inputs = l := rfl
@[simp] theorem State.withInputs_freeCount (s : State) (l : List Input) : (s.withInputs l).freeCount = s.freeCount := rfl

@[simp] theorem State.withReadData_params (s : State) (v : Reg) : (s.withReadData v).params = s.params := rfl
@[simp] theorem State.withReadData_mid (s : State) (v : Reg) : (s.withReadData v).mid = s.mid := rfl
@[simp] theorem State.withReadData_midValid (s : State) (v : Reg) : (s.withReadData v).midValid = s.midValid := rfl
@[simp] theorem State.withReadData_permuteEngine (s : State) (v : Reg) : (s.withReadData v).permuteEngine = s.permuteEngine := rfl
@[simp] theorem State.withReadData_closeEngine (s : State) (v : Reg) : (s.withReadData v).closeEngine = s.closeEngine := rfl
@[simp] theorem State.withReadData_absPos (s : State) (v : Reg) : (s.withReadData v).absPos = s.absPos := rfl
@[simp] theorem State.withReadData_absTotal (s : State) (v : Reg) : (s.withReadData v).absTotal = s.absTotal := rfl
@[simp] theorem State.withReadData_absBlocks (s : State) (v : Reg) : (s.withReadData v).absBlocks = s.absBlocks := rfl
@[simp] theorem State.withReadData_workers (s : State) (v : Reg) : (s.withReadData v).workers = s.workers := rfl
@[simp] theorem State.withReadData_snap (s : State) (v : Reg) : (s.withReadData v).snap = s.snap := rfl
@[simp] theorem State.withReadData_flag (s : State) (v : Reg) : (s.withReadData v).flag = s.flag := rfl
@[simp] theorem State.withReadData_active (s : State) (v : Reg) : (s.withReadData v).active = s.active := rfl
@[simp] theorem State.withReadData_result (s : State) (v : Reg) : (s.withReadData v).result = s.result := rfl
@[simp] theorem State.withReadData_resultLen (s : State) (v : Reg) : (s.withReadData v).resultLen = s.resultLen := rfl
@[simp] theorem State.withReadData_winLane (s : State) (v : Reg) : (s.withReadData v).winLane = s.winLane := rfl
@[simp] theorem State.withReadData_winWorker (s : State) (v : Reg) : (s.withReadData v).winWorker = s.winWorker := rfl
@[simp] theorem State.withReadData_ovf (s : State) (v : Reg) : (s.withReadData v).ovf = s.ovf := rfl
@[simp] theorem State.withReadData_mode (s : State) (v : Reg) : (s.withReadData v).mode = s.mode := rfl
@[simp] theorem State.withReadData_done (s : State) (v : Reg) : (s.withReadData v).done = s.done := rfl
@[simp] theorem State.withReadData_err (s : State) (v : Reg) : (s.withReadData v).err = s.err := rfl
@[simp] theorem State.withReadData_irqEn (s : State) (v : Reg) : (s.withReadData v).irqEn = s.irqEn := rfl
@[simp] theorem State.withReadData_verifyEn (s : State) (v : Reg) : (s.withReadData v).verifyEn = s.verifyEn := rfl
@[simp] theorem State.withReadData_data0 (s : State) (v : Reg) : (s.withReadData v).data0 = s.data0 := rfl
@[simp] theorem State.withReadData_mwm (s : State) (v : Reg) : (s.withReadData v).mwm = s.mwm := rfl
@[simp] theorem State.withReadData_nworkers (s : State) (v : Reg) : (s.withReadData v).nworkers = s.nworkers := rfl
@[simp] theorem State.withReadData_partLo (s : State) (v : Reg) : (s.withReadData v).partLo = s.partLo := rfl
@[simp] theorem State.withReadData_partHi (s : State) (v : Reg) : (s.withReadData v).partHi = s.partHi := rfl
@[simp] theorem State.withReadData_iterLo (s : State) (v : Reg) : (s.withReadData v).iterLo = s.iterLo := rfl
@[simp] theorem State.withReadData_iterHi (s : State) (v : Reg) : (s.withReadData v).iterHi = s.iterHi := rfl
@[simp] theorem State.withReadData_ckBase (s : State) (v : Reg) : (s.withReadData v).ckBase = s.ckBase := rfl
@[simp] theorem State.withReadData_targetLength (s : State) (v : Reg) : (s.withReadData v).targetLength = s.targetLength := rfl
@[simp] theorem State.withReadData_sumLength (s : State) (v : Reg) : (s.withReadData v).sumLength = s.sumLength := rfl
@[simp] theorem State.withReadData_cellL (s : State) (v : Reg) : (s.withReadData v).cellL = s.cellL := rfl
@[simp] theorem State.withReadData_cellH (s : State) (v : Reg) : (s.withReadData v).cellH = s.cellH := rfl
@[simp] theorem State.withReadData_rst (s : State) (v : Reg) : (s.withReadData v).rst = s.rst := rfl
@[simp] theorem State.withReadData_readData (s : State) (v : Reg) : (s.withReadData v).readData = v := rfl
@[simp] theorem State.withReadData_inputs (s : State) (v : Reg) : (s.withReadData v).inputs = s.inputs := rfl
@[simp] theorem State.withReadData_freeCount (s : State) (v : Reg) : (s.withReadData v).freeCount = s.freeCount := rfl

@[simp] theorem State.withWorker_params (s : State) (w : Nat) (W : Worker) : (s.withWorker w W).params = s.params := rfl
@[simp] theorem State.withWorker_mid (s : State) (w : Nat) (W : Worker) : (s.withWorker w W).mid = s.mid := rfl
@[simp] theorem State.withWorker_midValid (s : State) (w : Nat) (W : Worker) : (s.withWorker w W).midValid = s.midValid := rfl
@[simp] theorem State.withWorker_permuteEngine (s : State) (w : Nat) (W : Worker) : (s.withWorker w W).permuteEngine = s.permuteEngine := rfl
@[simp] theorem State.withWorker_closeEngine (s : State) (w : Nat) (W : Worker) : (s.withWorker w W).closeEngine = s.closeEngine := rfl
@[simp] theorem State.withWorker_absPos (s : State) (w : Nat) (W : Worker) : (s.withWorker w W).absPos = s.absPos := rfl
@[simp] theorem State.withWorker_absTotal (s : State) (w : Nat) (W : Worker) : (s.withWorker w W).absTotal = s.absTotal := rfl
@[simp] theorem State.withWorker_absBlocks (s : State) (w : Nat) (W : Worker) : (s.withWorker w W).absBlocks = s.absBlocks := rfl
@[simp] theorem State.withWorker_workers (s : State) (w : Nat) (W : Worker) : (s.withWorker w W).workers = s.workers.set w W := rfl
@[simp] theorem State.withWorker_snap (s : State) (w : Nat) (W : Worker) : (s.withWorker w W).snap = s.snap := rfl
@[simp] theorem State.withWorker_flag (s : State) (w : Nat) (W : Worker) : (s.withWorker w W).flag = s.flag := rfl
@[simp] theorem State.withWorker_active (s : State) (w : Nat) (W : Worker) : (s.withWorker w W).active = s.active := rfl
@[simp] theorem State.withWorker_result (s : State) (w : Nat) (W : Worker) : (s.withWorker w W).result = s.result := rfl
@[simp] theorem State.withWorker_resultLen (s : State) (w : Nat) (W : Worker) : (s.withWorker w W).resultLen = s.resultLen := rfl
@[simp] theorem State.withWorker_winLane (s : State) (w : Nat) (W : Worker) : (s.withWorker w W).winLane = s.winLane := rfl
@[simp] theorem State.withWorker_winWorker (s : State) (w : Nat) (W : Worker) : (s.withWorker w W).winWorker = s.winWorker := rfl
@[simp] theorem State.withWorker_ovf (s : State) (w : Nat) (W : Worker) : (s.withWorker w W).ovf = s.ovf := rfl
@[simp] theorem State.withWorker_mode (s : State) (w : Nat) (W : Worker) : (s.withWorker w W).mode = s.mode := rfl
@[simp] theorem State.withWorker_done (s : State) (w : Nat) (W : Worker) : (s.withWorker w W).done = s.done := rfl
@[simp] theorem State.withWorker_err (s : State) (w : Nat) (W : Worker) : (s.withWorker w W).err = s.err := rfl
@[simp] theorem State.withWorker_irqEn (s : State) (w : Nat) (W : Worker) : (s.withWorker w W).irqEn = s.irqEn := rfl
@[simp] theorem State.withWorker_verifyEn (s : State) (w : Nat) (W : Worker) : (s.withWorker w W).verifyEn = s.verifyEn := rfl
@[simp] theorem State.withWorker_data0 (s : State) (w : Nat) (W : Worker) : (s.withWorker w W).data0 = s.data0 := rfl
@[simp] theorem State.withWorker_mwm (s : State) (w : Nat) (W : Worker) : (s.withWorker w W).mwm = s.mwm := rfl
@[simp] theorem State.withWorker_nworkers (s : State) (w : Nat) (W : Worker) : (s.withWorker w W).nworkers = s.nworkers := rfl
@[simp] theorem State.withWorker_partLo (s : State) (w : Nat) (W : Worker) : (s.withWorker w W).partLo = s.partLo := rfl
@[simp] theorem State.withWorker_partHi (s : State) (w : Nat) (W : Worker) : (s.withWorker w W).partHi = s.partHi := rfl
@[simp] theorem State.withWorker_iterLo (s : State) (w : Nat) (W : Worker) : (s.withWorker w W).iterLo = s.iterLo := rfl
@[simp] theorem State.withWorker_iterHi (s : State) (w : Nat) (W : Worker) : (s.withWorker w W).iterHi = s.iterHi := rfl
@[simp] theorem State.withWorker_ckBase (s : State) (w : Nat) (W : Worker) : (s.withWorker w W).ckBase = s.ckBase := rfl
@[simp] theorem State.withWorker_targetLength (s : State) (w : Nat) (W : Worker) : (s.withWorker w W).targetLength = s.targetLength := rfl
@[simp] theorem State.withWorker_sumLength (s : State) (w : Nat) (W : Worker) : (s.withWorker w W).sumLength = s.sumLength := rfl
@[simp] theorem State.withWorker_cellL (s : State) (w : Nat) (W : Worker) : (s.withWorker w W).cellL = s.cellL := rfl
@[simp] theorem State.withWorker_cellH (s : State) (w : Nat) (W : Worker) : (s.withWorker w W).cellH = s.cellH := rfl
@[simp] theorem State.withWorker_rst (s : State) (w : Nat) (W : Worker) : (s.withWorker w W).rst = s.rst := rfl
@[simp] theorem State.withWorker_readData (s : State) (w : Nat) (W : Worker) : (s.withWorker w W).readData = s.readData := rfl
@[simp] theorem State.withWorker_inputs (s : State) (w : Nat) (W : Worker) : (s.withWorker w W).inputs = s.inputs := rfl
@[simp] theorem State.withWorker_freeCount (s : State) (w : Nat) (W : Worker) : (s.withWorker w W).freeCount = s.freeCount := rfl

@[simp] theorem State.withErr_busy (s : State) (e : ErrCode) : (s.withErr e).busy = s.busy := rfl
@[simp] theorem State.withErr_worker (s : State) (e : ErrCode) (k : Nat) : (s.withErr e).worker k = s.worker k := rfl
@[simp] theorem State.withMid_busy (s : State) (B : Buffer) : (s.withMid B).busy = s.busy := rfl
@[simp] theorem State.withMid_worker (s : State) (B : Buffer) (k : Nat) : (s.withMid B).worker k = s.worker k := rfl
@[simp] theorem State.withInputs_busy (s : State) (l : List Input) : (s.withInputs l).busy = s.busy := rfl
@[simp] theorem State.withInputs_worker (s : State) (l : List Input) (k : Nat) : (s.withInputs l).worker k = s.worker k := rfl
@[simp] theorem State.withReadData_busy (s : State) (v : Reg) : (s.withReadData v).busy = s.busy := rfl
@[simp] theorem State.withReadData_worker (s : State) (v : Reg) (k : Nat) : (s.withReadData v).worker k = s.worker k := rfl
@[simp] theorem State.withWorker_busy (s : State) (w : Nat) (W : Worker) : (s.withWorker w W).busy = s.busy := rfl

theorem State.withErr_withErr (s : State) (e e' : ErrCode) : (s.withErr e).withErr e' = s.withErr e' := rfl

/-- The worker that was written is read back. -/
@[simp] theorem State.worker_withWorker_same (s : State) (w : Nat) (W : Worker) (h : w < s.workers.length) :
    (s.withWorker w W).worker w = W := by
  simp [State.worker, State.withWorker, List.getD, h]

/-- Every other worker is as before (10_state.md R25). -/
theorem State.worker_withWorker_other (s : State) (w k : Nat) (W : Worker) (h : k ≠ w) :
    (s.withWorker w W).worker k = s.worker k := by
  simp [State.worker, State.withWorker, List.getD, List.getElem?_set_ne (Ne.symm h)]

/-- A worker that does not exist is Off. -/
theorem State.worker_of_length_le (s : State) (w : Nat) (h : s.workers.length ≤ w) : s.worker w = Worker.blank := by
  simp [State.worker, List.getD, h]

/-- The number of workers never changes by an update of one. -/
@[simp] theorem State.withWorker_length (s : State) (w : Nat) (W : Worker) :
    (s.withWorker w W).workers.length = s.workers.length := by
  simp [State.withWorker]

end Sys2Proof.Machine
end

