-- ==== Sys2Proof/Laws/Commands.lean ====
section
/-! SUPPORT. What a command can do: the first failing check rejects it, or its effect happens and ERR is 0. -/

namespace Sys2Proof.Machine

theorem firstError_append (l l' : List (Bool × ErrCode)) :
    firstError (l ++ l') = (firstError l).or (firstError l') := by
  induction l with
  | nil => rfl
  | cons x l ih =>
    obtain ⟨b, e⟩ := x
    cases b <;> simp [firstError, ih]

/-- No check fails iff every condition is false. -/
theorem firstError_eq_none_iff (l : List (Bool × ErrCode)) : firstError l = none ↔ ∀ x ∈ l, x.1 = false := by
  induction l with
  | nil => simp [firstError]
  | cons x l ih =>
    obtain ⟨b, e⟩ := x
    cases b <;> simp [firstError, ih]

/-- An error code that is reported belongs to a check that failed. -/
theorem firstError_mem {l : List (Bool × ErrCode)} {e : ErrCode} (h : firstError l = some e) : (true, e) ∈ l := by
  induction l with
  | nil => cases h
  | cons x l ih =>
    obtain ⟨b, e'⟩ := x
    cases b
    · exact List.mem_cons_of_mem _ (ih h)
    · simp only [firstError, Option.some.injEq] at h
      subst h; exact List.mem_cons_self

theorem firstError_ready (s : State) (hb : s.busy = false) (hv : s.midValid = true) :
    firstError (readyChecks s) = none := by
  simp [readyChecks, firstError, hb, hv]

/-- A rejected command. -/
theorem runCommand_rejected {cs : List (Bool × ErrCode)} {e : ErrCode} (f : State → State) (s : State)
    (h : firstError cs = some e) : runCommand cs f s = .next (s.withErr e) := by
  simp [runCommand, h, raiseCmdError]

/-- An accepted command. -/
theorem runCommand_accepted {cs : List (Bool × ErrCode)} (f : State → State) (s : State)
    (h : firstError cs = none) : runCommand cs f s = .next ((f s).withErr .ok) := by
  simp [runCommand, h]

/-- All that a command can do (60_exceptions.md R231, R236). -/
theorem runCommand_cases (cs : List (Bool × ErrCode)) (f : State → State) (s : State) :
    (∃ e, firstError cs = some e ∧ runCommand cs f s = .next (s.withErr e)) ∨
    (firstError cs = none ∧ runCommand cs f s = .next ((f s).withErr .ok)) := by
  cases h : firstError cs with
  | some e => exact .inl ⟨e, rfl, runCommand_rejected f s h⟩
  | none => exact .inr ⟨rfl, runCommand_accepted f s h⟩

/-- The same for a command that is known to have gone on. -/
theorem runCommand_next {cs : List (Bool × ErrCode)} {f : State → State} {s t : State}
    (h : runCommand cs f s = .next t) :
    (∃ e, firstError cs = some e ∧ t = s.withErr e) ∨ (firstError cs = none ∧ t = (f s).withErr .ok) := by
  rcases runCommand_cases cs f s with ⟨e, he, h'⟩ | ⟨hn, h'⟩ <;> rw [h'] at h <;> cases h
  · exact .inl ⟨e, he, rfl⟩
  · exact .inr ⟨hn, rfl⟩

end Sys2Proof.Machine
end

