-- ==== Sys2Proof/Laws/Increment.lean ====
section
/-! SUPPORT. The increment: which cells it writes, and that it keeps digits digits. -/

namespace Sys2Proof.Machine

/-- Inc writes only the cells of its range (42_nonce_search.md R150). -/
theorem getCell_incCells_outside (count i : Nat) (B : Buffer) (j : Nat) (h : j < i ∨ i + count ≤ j) :
    getCell (incCells count i B).2 j = getCell B j := by
  induction count generalizing i B with
  | zero => rfl
  | succ n ih =>
    have hj : j ≠ i := by omega
    simp only [incCells]
    repeat' split
    all_goals first
      | rw [ih _ _ (by omega), getCell_setCell_other _ _ _ _ hj]
      | exact getCell_setCell_other _ _ _ _ hj

theorem getCell_inc_outside (B : Buffer) (lo hi j : Nat) (h : j < lo ∨ (lo ≤ hi ∧ hi ≤ j)) :
    getCell (inc B lo hi).2 j = getCell B j := by
  rw [inc]
  exact getCell_incCells_outside _ _ _ _ (by omega)

/-- Inc of an empty range (42_nonce_search.md R152). -/
theorem inc_empty (B : Buffer) (lo : Nat) : inc B lo lo = (true, B) := by simp [inc, incCells]

/-- Over uniform cells Inc leaves uniform cells (42_nonce_search.md R153). -/
theorem uniform_incCells (count i : Nat) (B : Buffer)
    (hu : ∀ j, i ≤ j → j < i + count → uniform (getCell B j) = true) (hb : i + count ≤ 729) (j : Nat)
    (h1 : i ≤ j) (h2 : j < i + count) : uniform (getCell (incCells count i B).2 j) = true := by
  induction count generalizing i B with
  | zero => omega
  | succ n ih =>
    have hi := hu i le_rfl (by omega)
    simp only [incCells]
    split
    · split
      · by_cases e : j = i
        · subst e
          rw [getCell_incCells_outside _ _ _ _ (by omega), getCell_setCell_same _ _ _ (by omega)]
          exact uniform_bcast _
        · refine ih _ _ ?_ (by omega) (by omega) (by omega)
          intro k hk1 hk2
          rw [getCell_setCell_other _ _ _ _ (by omega)]
          exact hu k (by omega) (by omega)
      · by_cases e : j = i
        · subst e; rw [getCell_setCell_same _ _ _ (by omega)]; exact uniform_bcast _
        · rw [getCell_setCell_other _ _ _ _ e]; exact hu j h1 h2
    · rename_i hn
      simp [uniform, hn] at hi

theorem uniformRange_inc (B : Buffer) (lo hi : Nat) (hb : hi ≤ 729) (hu : uniformRange B lo hi = true) :
    uniformRange (inc B lo hi).2 lo hi = true := by
  rw [uniformRange_iff] at hu ⊢
  intro i h1 h2
  rw [inc]
  exact uniform_incCells _ _ _ (fun j a b => hu j a (by omega)) (by omega) i h1 (by omega)

end Sys2Proof.Machine
end

