-- ==== Sys2Proof/Laws/PerInstr.lean ====
section
/-! SUPPORT. Facts about each command as syntax, one lemma per constructor. -/

namespace Sys2Proof.Laws

/-- The top byte of a command's word is its OPCODE (30_encoding.md R95, R100). -/
def OpcodeByte.Statement (i : Instr) : Prop := (encode i).extractLsb' 24 8 = opcode i

/-- The top byte of a word built from a byte and its 24 operand bits. -/
theorem top_byte (a : BitVec 8) (b : BitVec 24) : (a ++ b : BitVec 32).extractLsb' 24 8 = a := by
  rw [BitVec.extractLsb'_append_eq_left]

theorem OpcodeByte.nop : OpcodeByte.Statement .nop := top_byte _ _
theorem OpcodeByte.absorbInit : OpcodeByte.Statement .absorbInit := top_byte _ _
theorem OpcodeByte.absorbTrits (n : Nat) (auto : Bool) : OpcodeByte.Statement (.absorbTrits n auto) := top_byte _ _
theorem OpcodeByte.padRate : OpcodeByte.Statement .padRate := top_byte _ _
theorem OpcodeByte.permute : OpcodeByte.Statement .permute := top_byte _ _
theorem OpcodeByte.lanePattern (off : Nat) : OpcodeByte.Statement (.lanePattern off) := top_byte _ _
theorem OpcodeByte.increment (lo hi : Nat) : OpcodeByte.Statement (.increment lo hi) := top_byte _ _
theorem OpcodeByte.readCell (idx : Nat) : OpcodeByte.Statement (.readCell idx) := top_byte _ _
theorem OpcodeByte.writeCell (idx : Nat) : OpcodeByte.Statement (.writeCell idx) := top_byte _ _
theorem OpcodeByte.searchNonce : OpcodeByte.Statement .searchNonce := top_byte _ _
theorem OpcodeByte.searchChecksum : OpcodeByte.Statement .searchChecksum := top_byte _ _
theorem OpcodeByte.cancel : OpcodeByte.Statement .cancel := top_byte _ _

end Sys2Proof.Laws
end

