-- ==== Sys2Proof/Laws/Transform.lean ====
section
/-! SUPPORT. The Transform: the cursor, what one round writes, and which part of the engine a Transform reads. -/

namespace Sys2Proof.Machine

/-- The cursor stays in 0..728 (40_permutation.md R115). -/
theorem advance_lt {c : Nat} (h : c < 729) : advance c < 729 := by
  unfold advance Config.strideUp Config.strideDown; split <;> omega

/-- Both branches of the advance add 364 modulo 729 (40_permutation.md R115). -/
theorem advance_mod {c : Nat} (h : c < 729) : advance c = (c + 364) % 729 := by
  unfold advance Config.strideUp Config.strideDown; split <;> omega

/-- The cursor after k advances from a closed-form position is the closed form of the next position. -/
theorem advance_closed (k : Nat) : advance (364 * k % 729) = 364 * (k + 1) % 729 := by
  rw [advance_mod (Nat.mod_lt _ (by decide))]; omega

/-- The cells of a round from cell i on, with the cursor at its closed-form position: each is the update of the two
cells the schedule names, every other cell stays. -/
theorem getCell_roundCells (X : Buffer) (count i : Nat) (B : Buffer) (h : i + count ≤ 729) (j : Nat) :
    getCell (roundCells X count i (364 * i % 729) B).1 j =
      if i ≤ j ∧ j < i + count then
        cellUpdate (getCell X (364 * j % 729)) (getCell X (364 * (j + 1) % 729))
      else getCell B j := by
  induction count generalizing i B with
  | zero => simp only [roundCells]; rw [if_neg (by omega)]
  | succ n ih =>
    simp only [roundCells, advance_closed]
    rw [ih (i + 1) _ (by omega), getCell_setCell _ _ _ _ (by omega)]
    by_cases e : j = i
    · subst e; rw [if_neg (by omega), if_pos rfl, if_pos (by omega)]
    · rw [if_neg e]
      by_cases h' : i + 1 ≤ j ∧ j < i + 1 + n
      · rw [if_pos h', if_pos (by omega)]
      · rw [if_neg h', if_neg (by omega)]

/-- The cursor after some cells of a round. -/
theorem roundCells_cursor (X : Buffer) (count i : Nat) (B : Buffer) :
    (roundCells X count i (364 * i % 729) B).2 = 364 * (i + count) % 729 := by
  induction count generalizing i B with
  | zero => rfl
  | succ n ih => simp only [roundCells, advance_closed]; rw [ih]; congr 2; omega

/-- A round that starts at cursor 0 ends at cursor 0 (40_permutation.md R115). -/
theorem transformRound_cursor (B : Buffer) : (transformRound 0 B).2 = 0 := by
  have h := roundCells_cursor B 729 0 B
  simpa [transformRound, Config.stateLength] using h

/-- One cell of a round (40_permutation.md R113, R115). -/
theorem getCell_transformRound (B : Buffer) {j : Nat} (h : j < 729) :
    getCell (transformRound 0 B).1 j =
      cellUpdate (getCell B (364 * j % 729)) (getCell B (364 * (j + 1) % 729)) := by
  have := getCell_roundCells B 729 0 B (by omega) j
  simpa [transformRound, Config.stateLength, h] using this

/-- One lane of the cell update, low bit: it depends on that lane alone (40_permutation.md R118). -/
theorem cellUpdate_L (x y : Cell) (b : Nat) (h : b < 64) :
    (cellUpdate x y).L.getLsbD b =
      !((x.L.getLsbD b || !y.H.getLsbD b) && (y.L.getLsbD b != x.H.getLsbD b)) := by
  simp [cellUpdate, delta, h]

/-- One lane of the cell update, high bit. -/
theorem cellUpdate_H (x y : Cell) (b : Nat) (h : b < 64) :
    (cellUpdate x y).H.getLsbD b =
      ((x.L.getLsbD b != y.H.getLsbD b) ||
        ((x.L.getLsbD b || !y.H.getLsbD b) && (y.L.getLsbD b != x.H.getLsbD b))) := by
  simp [cellUpdate, delta, h]

/-- What the rounds compute from an engine whose cursor is 0: the engine's other contents do not matter. -/
theorem transformRounds_snd (count r : Nat) (e : Engine) (B : Buffer) (h : e.cursor = 0) :
    (transformRounds count r e B).2 = (fun X => (transformRound 0 X).1)^[count] B := by
  induction count generalizing r e B with
  | zero => rfl
  | succ n ih =>
    have hc := transformRound_cursor B
    have hs : transformRounds (n + 1) r e B = transformRounds n (r + 1)
        { scratch := B, round := r, index := Config.stateLength - 1, cursor := (transformRound e.cursor B).2 }
        (transformRound e.cursor B).1 := by rw [transformRounds]
    rw [h, hc] at hs
    rw [hs, Function.iterate_succ_apply, ih _ _ _ rfl]

end Sys2Proof.Machine
end

