-- ==== Sys2Proof/Laws/Window.lean ====
section
/-! SUPPORT. The register window: every register is found at its offset, and a well-formed access reaches it. -/

namespace Sys2Proof.Machine

/-- The map has no two registers at one offset (10_state.md R32). -/
theorem registerAt_offset (r : Register) : registerAt (registerOffset r) = some r := by
  cases r with
  | result k => revert k; decide +kernel
  | _ => rfl

theorem registerAt_some {o : Nat} {r : Register} (h : registerAt o = some r) : registerOffset r = o := by
  have := List.find?_some h
  simpa using this

theorem registerOffset_lt (r : Register) : registerOffset r < 256 := by
  cases r with
  | result k => simp only [registerOffset]; omega
  | _ => decide

theorem registerOffset_mod (r : Register) : registerOffset r % 4 = 0 := by
  cases r with
  | result k => simp only [registerOffset]; omega
  | _ => decide

/-- An aligned 32-bit access to a register of the map reaches it (20_memory.md R71 to R74). -/
theorem accessTarget_register (base : Nat) (hb : base % 256 = 0) (r : Register) :
    accessTarget base (base + registerOffset r) 4 = .register r := by
  have h1 := registerOffset_lt r
  have h2 := registerOffset_mod r
  have h3 : windowOffset base (base + registerOffset r) = some (registerOffset r) := by
    simp [windowOffset, h1]
  have h4 : (base + registerOffset r) % 4 = 0 := by omega
  simp [accessTarget, h3, h4, registerAt_offset]

/-- What the decoder reads from the bytes of a word is what it reads from the word. -/
theorem decodeBytes_bytesOfWord (w : Reg) : decodeBytes (bytesOfWord w) = decode w := by
  have h : wordOfBytes (w.extractLsb' 0 8) (w.extractLsb' 8 8) (w.extractLsb' 16 8) (w.extractLsb' 24 8) = w := by
    unfold wordOfBytes
    apply BitVec.eq_of_getLsbD_eq
    intro i hi
    simp only [BitVec.getLsbD_append, BitVec.getLsbD_extractLsb']
    by_cases h1 : i < 8
    · simp [h1]
    by_cases h2 : i < 16
    · simp [h1, show i - 8 < 8 by omega, show 8 + (i - 8) = i by omega]
    by_cases h3 : i < 24
    · simp [h1, show ¬ i - 8 < 8 by omega, show i - 8 - 8 < 8 by omega, show 16 + (i - 8 - 8) = i by omega]
    · simp [h1, show ¬ i - 8 < 8 by omega, show ¬ i - 8 - 8 < 8 by omega, show i - 8 - 8 - 8 < 8 by omega,
        show 24 + (i - 8 - 8 - 8) = i by omega]
  simp only [bytesOfWord, decodeBytes, h]

end Sys2Proof.Machine
end

