-- ==== Sys2Proof/Laws/Workers.lean ====
section
/-! SUPPORT. The worker steps and the machine's step: what each can do, said once. -/

namespace Sys2Proof.Machine

/-- Stop_w leaves every other worker as it is (42_nonce_search.md R185, 20_memory.md R84). -/
theorem stopWorker_worker_other (w k : Nat) (s : State) (h : k ≠ w) : (stopWorker w s).worker k = s.worker k :=
  State.worker_withWorker_other s w k _ h

theorem stopWorker_worker_same (w : Nat) (s : State) (h : w < s.workers.length) :
    (stopWorker w s).worker w = { s.worker w with phase := .off } :=
  State.worker_withWorker_same s w _ h

@[simp] theorem stopWorker_mid (w : Nat) (s : State) : (stopWorker w s).mid = s.mid := rfl
@[simp] theorem stopWorker_params (w : Nat) (s : State) : (stopWorker w s).params = s.params := rfl
@[simp] theorem stopWorker_snap (w : Nat) (s : State) : (stopWorker w s).snap = s.snap := rfl
@[simp] theorem stopWorker_err (w : Nat) (s : State) : (stopWorker w s).err = s.err := rfl
@[simp] theorem stopWorker_rst (w : Nat) (s : State) : (stopWorker w s).rst = s.rst := rfl
@[simp] theorem stopWorker_inputs (w : Nat) (s : State) : (stopWorker w s).inputs = s.inputs := rfl
@[simp] theorem stopWorker_result (w : Nat) (s : State) : (stopWorker w s).result = s.result := rfl
@[simp] theorem stopWorker_resultLen (w : Nat) (s : State) : (stopWorker w s).resultLen = s.resultLen := rfl
@[simp] theorem stopWorker_winLane (w : Nat) (s : State) : (stopWorker w s).winLane = s.winLane := rfl
@[simp] theorem stopWorker_winWorker (w : Nat) (s : State) : (stopWorker w s).winWorker = s.winWorker := rfl
@[simp] theorem stopWorker_midValid (w : Nat) (s : State) : (stopWorker w s).midValid = s.midValid := rfl
@[simp] theorem stopWorker_absPos (w : Nat) (s : State) : (stopWorker w s).absPos = s.absPos := rfl
@[simp] theorem stopWorker_active (w : Nat) (s : State) : (stopWorker w s).active = s.active - 1 := rfl

/-- The flag after a stop: Exhausted only by the last worker of a search that still runs (42_nonce_search.md R185). -/
theorem stopWorker_flag (w : Nat) (s : State) :
    (stopWorker w s).flag = if s.active - 1 = 0 ∧ s.flag = .running then .exhausted else s.flag := rfl

theorem stopWorker_done (w : Nat) (s : State) :
    (stopWorker w s).done = if s.active - 1 = 0 then true else s.done := rfl

/-- Iterate_w is a change of the worker alone, or the stop of an exhausted one (42_nonce_search.md R183,
43_checksum.md R197, R198). -/
theorem iterateStep_cases (w : Nat) (s : State) :
    (∃ W, iterateStep w s = s.withWorker w W) ∨
    (s.snap.mode = .checksum ∧ exhausts s.snap (s.worker w) = true ∧
      iterateStep w s =
        stopWorker w (s.withWorker w { s.worker w with pre := (checksumInc s.snap (s.worker w)).2 })) := by
  unfold iterateStep
  split
  · exact .inl ⟨_, rfl⟩
  · rename_i hm
    split
    · rename_i he; exact .inr ⟨hm, he, rfl⟩
    · exact .inl ⟨_, rfl⟩

/-- All that a worker's step can do: nothing; a change of the worker alone; the stop of an exhausted worker; a stop;
or a win and a stop (42_nonce_search.md R181 to R185). -/
theorem workerStep_cases (w : Nat) (s : State) :
    workerStep w s = s ∨
    (∃ W, workerStep w s = s.withWorker w W) ∨
    ((s.worker w).phase = .iterate ∧ s.snap.mode = .checksum ∧ exhausts s.snap (s.worker w) = true ∧
      workerStep w s =
        stopWorker w (s.withWorker w { s.worker w with pre := (checksumInc s.snap (s.worker w)).2 })) ∨
    (((s.worker w).phase = .check ∨ (s.worker w).phase = .claim) ∧ s.flag ≠ .running ∧
      workerStep w s = stopWorker w s) ∨
    ((s.worker w).phase = .claim ∧ s.flag = .running ∧ workerStep w s = stopWorker w (winSearch w s)) := by
  unfold workerStep
  split
  · exact .inl rfl
  · rename_i hp
    unfold checkStep
    split
    · exact .inr (.inl ⟨_, rfl⟩)
    · rename_i hf; exact .inr (.inr (.inr (.inl ⟨.inl hp, hf, rfl⟩)))
  · rename_i hp
    rcases iterateStep_cases w s with h | ⟨hm, he, h⟩
    · exact .inr (.inl h)
    · exact .inr (.inr (.inl ⟨hp, hm, he, h⟩))
  · unfold verifyStep
    split
    · exact .inl rfl
    · exact .inr (.inl ⟨_, rfl⟩)
  · rename_i hp
    unfold claimStep
    split
    · rename_i hf; exact .inr (.inr (.inr (.inr ⟨hp, hf, rfl⟩)))
    · rename_i hf; exact .inr (.inr (.inr (.inl ⟨.inr hp, hf, rfl⟩)))

/-- A verifier's answer changes one worker or nothing (43_checksum.md R206). -/
theorem takeVerifyRsp_cases (w : Nat) (accept : Bool) (s : State) :
    takeVerifyRsp w accept s = s ∨
    ((s.worker w).phase = .verify ∧ (s.worker w).request.isSome = true ∧
      takeVerifyRsp w accept s =
        s.withWorker w { s.worker w with request := none, response := some accept }) := by
  unfold takeVerifyRsp
  split
  · rename_i h; exact .inr ⟨h.1, h.2, rfl⟩
  · exact .inl rfl

/-- Every step is the idle step or the first move of State.inputs. -/
theorem step_cases (s : State) :
    (s.inputs = [] ∧ step s = .next s) ∨
    (∃ x rest, s.inputs = x :: rest ∧ step s = takeInput x (s.withInputs rest)) := by
  unfold step
  split
  · rename_i h; exact .inl ⟨h, rfl⟩
  · rename_i x rest h; exact .inr ⟨x, rest, h, rfl⟩

end Sys2Proof.Machine
end

