-- ==== Sys2Proof/Tests/Slice0.lean ====
section
/-! SUPPORT. The package's own tests: ill-formed terms, decoded words, single steps on small states against the spec's
vectors, and for every statement with hypotheses a state and operands that meet them. -/

namespace Sys2Proof.Tests

open Sys2Proof.Machine Sys2Proof.Safety

/-! ### Ill-formed terms that the checks refuse (30_encoding.md R96) -/

theorem test_wf_refuses_count : (Instr.absorbTrits 32 true).wf = false := by decide
theorem test_wf_refuses_offset : (Instr.lanePattern 256).wf = false := by decide
theorem test_wf_refuses_lo : (Instr.increment 1024 0).wf = false := by decide
theorem test_wf_refuses_hi : (Instr.increment 0 1024).wf = false := by decide
theorem test_wf_refuses_read_index : (Instr.readCell 1024).wf = false := by decide
theorem test_wf_refuses_write_index : (Instr.writeCell 1024).wf = false := by decide

/-! ### Words written out from the spec's encodings (30_encoding.md R96, R97; 95_test_vectors.md V-E1, V-E2) -/

theorem test_decode_nop : decode 0x00000000#32 = .ok .nop := by decide
theorem test_decode_absorb_init : decode 0x01000000#32 = .ok .absorbInit := by decide
/-- OPCODE 00000010, bits 23..9 zero, A = 1, bits 7..5 zero, N = 10000. -/
theorem test_decode_absorb_auto : decode 0b00000010000000000000000100010000#32 = .ok (.absorbTrits 16 true) := by decide
theorem test_decode_absorb_hold : decode 0x0200000A#32 = .ok (.absorbTrits 10 false) := by decide
theorem test_decode_pad_rate : decode 0x03000000#32 = .ok .padRate := by decide
theorem test_decode_permute : decode 0x04000000#32 = .ok .permute := by decide
theorem test_decode_lane_pattern : decode 0x050000EC#32 = .ok (.lanePattern 236) := by decide
/-- OPCODE 00000110, bits 23..20 zero, HI = 0011110011, LO = 0011011000. -/
theorem test_decode_increment : decode 0b00000110000000111100110011011000#32 = .ok (.increment 216 243) := by decide
theorem test_decode_increment_swapped : decode 0x06000C05#32 = .ok (.increment 5 3) := by decide
/-- OPCODE 00000111, bits 23..10 zero, IDX = 1011011000. -/
theorem test_decode_read_cell : decode 0b00000111000000000000001011011000#32 = .ok (.readCell 728) := by decide
theorem test_decode_write_cell : decode 0x08000005#32 = .ok (.writeCell 5) := by decide
theorem test_decode_search_nonce : decode 0x10000000#32 = .ok .searchNonce := by decide
theorem test_decode_search_checksum : decode 0x11000000#32 = .ok .searchChecksum := by decide
theorem test_decode_cancel : decode 0x12000000#32 = .ok .cancel := by decide
theorem test_decode_table_word : decodeTableWord 32 0x070002D8 = some (.readCell 728) := by decide

/-- The illegal words of V-E2. -/
theorem test_decode_illegal :
    [0x09000000, 0xFF000000, 0x01000001, 0x02000020, 0x02000200, 0x06100000, 0x07000400, 0x10000001].map
      (decodeTableWord 32) = List.replicate 8 none := by decide +kernel

/-- The words of V-E1 from the encoder (30_encoding.md R100). -/
theorem test_encode_words :
    [Instr.absorbTrits 16 true, .absorbTrits 3 false, .lanePattern 162, .increment 0 2, .increment 216 243,
      .readCell 728, .writeCell 5, .searchChecksum].map encode =
    [0x02000110#32, 0x02000003#32, 0x050000A2#32, 0x06000800#32, 0x0603CCD8#32, 0x070002D8#32, 0x08000005#32,
      0x11000000#32] := by decide

/-- No two rows of the opcode map select one word: their patterns differ in a bit that both masks hold. -/
theorem test_rows_do_not_overlap :
    opcodeMap.Pairwise fun r q => r.pattern &&& q.mask &&& r.mask ≠ q.pattern &&& r.mask &&& q.mask := by decide

/-- The window is little-endian (20_memory.md R72). -/
theorem test_bytes_are_little_endian : bytesOfWord 0x0603CCD8#32 = [0xD8#8, 0xCC#8, 0x03#8, 0x06#8] := by decide

/-! ### The lane pattern candidate (41_absorber.md R138, R139) -/

/-- LP0's hex words are the base-3 digits of the lane index. -/
theorem test_lp0_formula :
    ∀ k : Fin 4, ∀ b : Fin 64, laneCode Config.lp0[k] b.val =
      (match b.val / 3 ^ k.val % 3 with
      | 0 => 0b11#2
      | 1 => 0b10#2
      | _ => 0b01#2) := by decide +kernel

theorem test_sample_params_wf : Config.sampleParams.wf = true := by decide +kernel

/-! ### Small states -/

/-- Every cell trit 0. -/
def zeros : Buffer := Vector.replicate 729 (bcast .zero)

/-- The device after reset and ABSORB_INIT. -/
def ready : State := { State.reset with mid := zeros, midValid := true }

/-- A nonce search is about to be accepted: pattern-free MID, PART = [189, 192), ITER = [216, 219), two workers. -/
def nonceReady : State :=
  { ready with
    absTotal := 8019#32, mwm := 243#8, nworkers := 2#8, partLo := 189#8, partHi := 192#8, iterLo := 216#8,
    iterHi := 219#8 }

/-- A checksum search is about to be accepted: CK_BASE = 200, TARGET_LENGTH = 43, SUM_LENGTH = 243. -/
def checksumReady : State :=
  { ready with
    nworkers := 4#8, partLo := 204#8, partHi := 206#8, iterLo := 206#8, ckBase := 200#8, targetLength := 43#8,
    sumLength := 243#8 }

/-- A search of one worker in mode m, the worker in phase p with checksum length ck. -/
def searching (m : Mode) (p : Phase) (ck : Nat) : State :=
  { ready with
    flag := .running, active := 1, mode := m
    snap :=
      { mode := m, mwm := 243, n := 1, partLo := 204, partHi := 206, iterLo := 206, iterHi := 243, ckBase := 200,
        targetLength := 12, sumLength := 243, verifyEn := true }
    workers := { Worker.blank with pre := zeros, phase := p, ck := ck } :: List.replicate 3 Worker.blank }

/-- The STATUS word after a step that goes on. -/
def statusAfter (s : State) : Option Reg :=
  match step s with
  | .next t => some (statusWord t)
  | .fault _ => none
  | .refused _ => none

/-- MID cell i after a command that goes on. -/
def cellAfter (i : Instr) (s : State) (k : Nat) : Option Cell :=
  match exec i s with
  | .next t => some (getCell t.mid k)
  | .fault _ => none
  | .refused _ => none

/-! ### Single steps against the spec's vectors -/

/-- P1: PERMUTE right after reset gives ERR_UNINIT. -/
theorem test_permute_after_reset : statusAfter (State.reset.withFetchWord 32 0x04000000) = some 0x00030000#32 := by
  decide +kernel
/-- P1: an illegal word gives ERR_OPCODE. -/
theorem test_illegal_after_reset : statusAfter (State.reset.withFetchWord 32 0x09000000) = some 0x00010000#32 := by
  decide +kernel
/-- P1: ABSORB_INIT leaves STATUS = 0x10. -/
theorem test_absorb_init_status : statusAfter (State.reset.withFetchWord 32 0x01000000) = some 0x00000010#32 := by
  decide +kernel
/-- P3: INCREMENT 0,0 sets OVF. -/
theorem test_increment_empty : statusAfter (ready.withFetchWord 32 0x06000000) = some 0x00000030#32 := by
  decide +kernel
/-- V-I4: INCREMENT 700,729 on a fresh MID writes +1 to cell 700. -/
theorem test_increment_cell : cellAfter (.increment 700 729) ready 700 = some (bcast .pos) := by decide +kernel
/-- V-A2: slot 1 of 0x000B6DB6 is -1. -/
theorem test_absorb_second_trit :
    cellAfter (.absorbTrits 10 false) { ready with data0 := 0x000B6DB6#32 } 1 = some (bcast .neg) := by decide +kernel
/-- V-A2: cell 10 is not written. -/
theorem test_absorb_stops :
    cellAfter (.absorbTrits 10 false) { ready with data0 := 0x000AAAAA#32 } 10 = some (bcast .zero) := by
  decide +kernel
/-- V-A4: hold past cell 242 is ERR_RATE_FULL. -/
theorem test_absorb_rate_full :
    statusAfter ({ ready with absPos := 240, data0 := 0xFFFFFFFF#32 }.withFetchWord 32 0x02000004) =
      some 0x00060010#32 := by decide +kernel
/-- V-A4: a consumed slot 0b00 is ERR_BAD_TRIT. -/
theorem test_absorb_bad_trit :
    statusAfter ({ ready with data0 := 0x3FFFFFFF#32 }.withFetchWord 32 0x02000010) = some 0x00050010#32 := by
  decide +kernel
/-- V-A5: PAD_RATE fills from ABS_POS on. -/
theorem test_pad_rate :
    cellAfter .padRate { ready with mid := Vector.replicate 729 (bcast .pos), absPos := 10 } 242 =
      some (bcast .zero) := by decide +kernel
/-- PAD_RATE leaves the capacity. -/
theorem test_pad_rate_capacity :
    cellAfter .padRate { ready with mid := Vector.replicate 729 (bcast .pos), absPos := 10 } 243 =
      some (bcast .pos) := by decide +kernel
/-- R137: the fourth pattern cell lands at OFF + 3. -/
theorem test_lane_pattern : cellAfter (.lanePattern 239) ready 242 = some Config.lp0[3] := by decide +kernel
/-- P3: INCREMENT over a pattern cell is ERR_NONUNIFORM. -/
theorem test_increment_pattern :
    statusAfter ({ ready with mid := setCell zeros 0 Config.lp0[0] }.withFetchWord 32 0x06000400) =
      some 0x00090010#32 := by decide +kernel
/-- WRITE_CELL with SETCELL 0's value of R222 makes cell 0 the broadcast of +1. -/
theorem test_write_cell :
    cellAfter (.writeCell 0) { ready with cellL := 0#64, cellH := all1 } 0 = some (bcast .pos) := by decide +kernel
/-- R221: READ_CELL of IDX 729 is ERR_RANGE. -/
theorem test_read_cell_range : statusAfter (ready.withFetchWord 32 0x070002D9) = some 0x00040010#32 := by
  decide +kernel
/-- 42 R179: an accepted nonce search of two workers. -/
theorem test_search_nonce_status : statusAfter (nonceReady.withFetchWord 32 0x10000000) = some 0x02000019#32 := by
  decide +kernel
/-- 42 R176: the wrong length is ERR_LENGTH. -/
theorem test_search_nonce_length :
    statusAfter ({ nonceReady with absTotal := 8018#32 }.withFetchWord 32 0x10000000) = some 0x00070010#32 := by
  decide +kernel
/-- 43 R190: an accepted checksum search of four workers. -/
theorem test_search_checksum_status :
    statusAfter (checksumReady.withFetchWord 32 0x11000000) = some 0x04000059#32 := by decide +kernel
/-- P-N3: CANCEL before the first Check. -/
theorem test_cancel : statusAfter ((searching .nonce .check 0).withFetchWord 32 0x12000000) = some 0x0100001B#32 := by
  decide +kernel
/-- P-E: decode comes before BUSY. -/
theorem test_illegal_while_busy :
    statusAfter ((searching .nonce .check 0).withFetchWord 32 0x01000001) = some 0x01010019#32 := by decide +kernel
/-- P-N3: the last worker's Check after CANCEL sets DONE and clears BUSY. -/
theorem test_check_after_cancel :
    statusAfter { searching .nonce .check 0 with flag := .cancelled, inputs := [.worker 0] } = some 0x00000113#32 := by
  decide +kernel
/-- 70 R262: CAPS of the sample instance. -/
theorem test_caps : readRegister State.reset .caps = 0x1F530004#32 := by decide
/-- P-E: offset 0x48 is unmapped. -/
theorem test_unmapped : accessTarget 0 0x48 4 = .busError 0x48 4 := by decide
/-- P-E: address 0x02 is not aligned. -/
theorem test_unaligned : accessTarget 0 0x02 4 = .busError 0x02 4 := by decide

/-! ### Host sequences (30_encoding.md R102; 70_reset_and_hazards.md R265, R266) -/

/-- WAIT stops at the first STATUS value with BUSY = 0. -/
theorem test_wait : (waitSeq Config.sampleParams [0x01000019#32, 0x00000112#32, 0x00000112#32]).length = 2 := by decide
/-- R265: RESULT0..15 are read if FLAG is Completed, and then DONE is cleared. -/
theorem test_nonce_tail_completed :
    nonceTail Config.sampleParams 0x00000112#32 =
      .memRead 0x08 4 :: (List.range 16).map (fun k => .memRead (0x80 + 4 * k) 4) ++
        [.memWrite 0x08 4 0x00000100#32] := by decide
theorem test_nonce_tail_cancelled :
    nonceTail Config.sampleParams 0x00000113#32 = [.memRead 0x08 4, .memWrite 0x08 4 0x00000100#32] := by decide
/-- R266: STATUS, RESULT_INFO, RESULTk, and no write. -/
theorem test_checksum_tail :
    checksumTail Config.sampleParams =
      .memRead 0x08 4 :: .memRead 0x34 4 :: (List.range 16).map (fun k => .memRead (0x80 + 4 * k) 4) := by decide

/-! ### The Transform's parts and the predicates (95_test_vectors.md) -/

/-- V-T3: the first eight cursor values. -/
theorem test_cursor :
    (List.range 8).map (fun k => advance^[k] 0) = [0, 364, 728, 363, 727, 362, 726, 361] := by decide

/-- Row (1,1), (0,1) of the table of 40_permutation.md R117: F(0, +1) = +1. -/
theorem test_cell_update : cellUpdate (bcast .zero) (bcast .pos) = bcast .pos := by decide
/-- Row (0,0), (1,0): the invalid pair is no fault. -/
theorem test_cell_update_invalid : cellUpdate Cell.blank (bcast .neg) = bcast .pos := by decide

/-- V-T4: one round of the impulse at cell 0, its first two cells: F(+1, 0) = 0 and F(0, 0) = -1. -/
theorem test_round_impulse :
    (List.range 2).map (getCell (roundCells (setCell zeros 0 (bcast .pos)) 2 0 0 zeros).1) =
      [bcast .zero, bcast .neg] := by decide +kernel

/-- Cells c0, c1, c2 of the predicate vectors. -/
def vectorCells : List Cell :=
  [⟨0xFFFFFFFFFFFFFFF4#64, 0xFFFFFFFFFFFFFFFF#64⟩, ⟨0xFFFFFFFFFFFFFFF5#64, 0xFFFFFFFFFFFFFFF6#64⟩,
   ⟨0xFFFFFFFFFFFFFFFF#64, 0xFFFFFFFFFFFFFFF7#64⟩]

/-- c0, c1, c2 at cells i, i+1, i+2. -/
def vectorBuffer (i : Nat) : Buffer :=
  setCell (setCell (setCell zeros i (vectorCells.getD 0 Cell.blank)) (i + 1) (vectorCells.getD 1 Cell.blank)) (i + 2)
    (vectorCells.getD 2 Cell.blank)

/-- V-N1. -/
theorem test_nonce_mask :
    [0, 1, 2, 3].map (nonceMask (vectorBuffer 240)) =
      [0xFFFFFFFFFFFFFFFF#64, 0xFFFFFFFFFFFFFFF7#64, 0xFFFFFFFFFFFFFFF4#64, 0xFFFFFFFFFFFFFFF4#64] := by
  decide +kernel
/-- V-N1: the winning lane for MWM = 2. -/
theorem test_lowest_lane : lowestLane 0xFFFFFFFFFFFFFFF4#64 = 2 := by decide
/-- V-C1. -/
theorem test_balance_mask :
    [3, 2, 0].map (balanceMask (vectorBuffer 0)) =
      [0xFFFFFFFFFFFFFFFD#64, 0xFFFFFFFFFFFFFFF5#64, 0xFFFFFFFFFFFFFFFF#64] := by decide +kernel
/-- 43 R196: widening stops at the ceiling (P-C2, iteration 2). -/
theorem test_widen : widen { Snap.blank with ckBase := 236 } 5 = 7 := by decide

/-! ### For every statement with hypotheses: a state and operands that meet all of them

One theorem per statement (or per clause), at boundary values of the ranges it speaks of. -/

/-- The device ready for commands, with one move to come. -/
def moving (x : Input) : State := { ready with inputs := [x] }

/-- A running search with one move to come. -/
def searchMove (m : Mode) (p : Phase) (ck : Nat) (x : Input) : State := { searching m p ck with inputs := [x] }

/-- Worker 0 in Verify, its slots given. -/
def verifying (request : Option VerifyRequest) (response : Option Bool) (x : Input) : State :=
  { searching .checksum .verify 12 with
    inputs := [x]
    workers :=
      { Worker.blank with pre := zeros, phase := .verify, ck := 12, request := request, response := response } ::
        List.replicate 3 Worker.blank }

theorem uniform_zeros {lo hi : Nat} (h : hi ≤ 729) : UniformCells zeros lo hi :=
  fun i _ h2 => ⟨.zero, getCell_replicate _ (by omega)⟩

/-- The words with OPCODE 0x09, 0x0F, 0x13 and 0xFF, at both ends of both ranges that the opcode map leaves free; and
INCREMENT with its lowest reserved bit set. -/
theorem witness_IllegalWordGivesErrOpcode :
    (∀ r ∈ opcodeMap, 0x09000000#32 &&& r.mask ≠ r.pattern) ∧
    (∀ n ∈ [0x09, 0x0F, 0x13, 0xFF],
      let w := BitVec.ofNat 32 (n * 2 ^ 24)
      (0x09 ≤ (w.extractLsb' 24 8).toNat ∧ (w.extractLsb' 24 8).toNat ≤ 0x0F) ∨
        0x13 ≤ (w.extractLsb' 24 8).toNat) ∧
    (let w := 0x06100000#32
     let r : OpRow := ⟨.increment, 0x06000000#32, 0xFFF00000#32⟩
     r ∈ opcodeMap ∧ w.extractLsb' 24 8 = r.pattern.extractLsb' 24 8 ∧ w &&& (r.mask &&& 0x00FFFFFF#32) ≠ 0#32) := by
  decide

theorem witness_DecodeOfEncodeIsIdentity : (Instr.increment 1023 1023).wf = true := by decide
theorem witness_EncodeOfDecodeIsIdentity : decode 0x060FFFFF#32 = .ok (.increment 1023 1023) := by decide
theorem witness_WordSelectsRowIffMaskMatches :
    (⟨.increment, 0x06000000#32, 0xFFF00000#32⟩ : OpRow) ∈ opcodeMap := by decide
/-- A word that decodes, and one that matches no row. -/
theorem witness_StepRunsDecodedCommand :
    (let s := moving (.memWrite 0x0C 4 0x070002D8#32)
     s.params.tspBase % 256 = 0 ∧ s.rst = false ∧
       s.inputs = .memWrite (s.params.tspBase + 0x0C) 4 0x070002D8#32 :: [] ∧
       decode 0x070002D8#32 = .ok (.readCell 728)) ∧
    (let s := moving (.memWrite 0x0C 4 0x09000000#32)
     s.params.tspBase % 256 = 0 ∧ s.rst = false ∧
       s.inputs = .memWrite (s.params.tspBase + 0x0C) 4 0x09000000#32 :: [] ∧
       ∀ r ∈ opcodeMap, 0x09000000#32 &&& r.mask ≠ r.pattern) := by decide

/-- A read and a write at the last offset of both ranges of the map, at the offsets after them, at the window's last
byte, and of the wrong width. -/
theorem witness_BusErrorExactlyOnBadAccess :
    ∀ a ∈ [(0x44, 4), (0x48, 4), (0x7C, 4), (0x80, 4), (0xBC, 4), (0xC0, 4), (0xFF, 4), (0x0D, 4), (0x0C, 2)],
      (ready.params.tspBase % 256 = 0 ∧ ready.rst = false ∧ a.1 < 256) ∧
      (moving (.memRead a.1 a.2)).inputs = .memRead (ready.params.tspBase + a.1) a.2 :: [] ∧
      (moving (.memWrite a.1 a.2 1#32)).inputs = .memWrite (ready.params.tspBase + a.1) a.2 1#32 :: [] := by decide
theorem witness_ReadChangesOnlyReadData :
    let s := moving (.memRead 0xBC 4)
    s.params.tspBase % 256 = 0 ∧ s.rst = false ∧
      s.inputs = .memRead (s.params.tspBase + registerOffset (.result 15)) 4 :: [] := by decide
/-- Every number at the end of its range. -/
theorem witness_StatusAndInfoWordFields :
    let s :=
      { ready with
        active := 255, winLane := 63, winWorker := 255, resultLen := 255, absPos := 255
        params := { Config.sampleParams with nwMax := 255, transactionLength := 65535 } }
    s.active < 256 ∧ s.winLane < 64 ∧ s.winWorker < 256 ∧ s.resultLen < 256 ∧ s.absPos < 256 ∧ s.params.nwMax < 256 ∧
      s.params.transactionLength < 65536 := by decide
/-- A writable register and, for the second clause, a read-only one. -/
theorem witness_RegisterWriteFrame :
    (let s := moving (.memWrite 0x44 4 7#32)
     s.params.tspBase % 256 = 0 ∧ s.rst = false ∧ Register.cellHighHi ≠ .cmd ∧
       s.inputs = .memWrite (s.params.tspBase + registerOffset .cellHighHi) 4 7#32 :: []) ∧
    (let s := moving (.memWrite 0xBC 4 7#32)
     s.params.tspBase % 256 = 0 ∧ s.rst = false ∧ Register.result 15 ≠ .cmd ∧
       s.inputs = .memWrite (s.params.tspBase + registerOffset (.result 15)) 4 7#32 :: []) := by decide
theorem witness_DoneAndInterruptFollowWrites :
    ∀ a ∈ [(0x08, 0x100#32), (0x08, 0#32), (0x04, 0x1#32), (0x04, 0#32)],
      let s := { moving (.memWrite a.1 4 a.2) with done := true }
      s.params.tspBase % 256 = 0 ∧ s.rst = false ∧ s.inputs = .memWrite (s.params.tspBase + a.1) 4 a.2 :: [] := by
  decide

/-- A command that ends with an error code. -/
theorem witness_CommandErrorChangesOnlyErr :
    ∃ t, exec .permute State.reset = .next t ∧ t.err ≠ .ok := ⟨_, rfl, by decide⟩
theorem witness_BusyRejectsCommands :
    0 < (searching .nonce .check 0).active ∧ Instr.permute ≠ .nop ∧ Instr.permute ≠ .cancel := by decide
theorem witness_UninitRejectsCommands :
    State.reset.active = 0 ∧ State.reset.midValid = false ∧ Instr.permute ≠ .nop ∧ Instr.permute ≠ .absorbInit ∧
      Instr.permute ≠ .cancel := by decide
theorem witness_PossibleErrorCodes : ∃ t, exec .permute State.reset = .next t := ⟨_, rfl⟩

theorem blank_not_uniform (t : Trit) : Cell.blank ≠ bcast t := by cases t <;> decide

/-- Each clause at the first value it speaks of; the last clause on a MID with one (0,0) cell. -/
theorem witness_BadOperandsAreRejected :
    ready.active = 0 ∧ ready.midValid = true ∧ 728 < 729 ∧ 239 < 240 ∧ (0 < 1 ∨ 729 < 0) ∧ (730 < 0 ∨ 729 < 730) ∧
    ((0 : Nat) = 0 ∨ 16 < 0) ∧ ((17 : Nat) = 0 ∨ 16 < 17) ∧
    (let s := { ready with mid := setCell zeros 728 Cell.blank }
     s.active = 0 ∧ s.midValid = true ∧ 728 ≤ 729 ∧ 729 ≤ 729 ∧ 728 ≤ 728 ∧ 728 < 729 ∧
       ∀ t, getCell s.mid 728 ≠ bcast t) := by
  refine ⟨rfl, rfl, by omega, by omega, by omega, by omega, .inl rfl, .inr (by omega), rfl, rfl, by omega, by omega,
    by omega, by omega, fun t => ?_⟩
  rw [getCell_setCell_same _ _ _ (by decide)]
  exact blank_not_uniform t

/-- Slot 15 alone is 0b00; and a hold form one trit too long. -/
theorem witness_AbsorbTritsRejections :
    (let s := { ready with data0 := 0x3FFFFFFF#32 }
     s.active = 0 ∧ s.midValid = true ∧ ∃ j, j < 16 ∧ slot s.data0 j = 0b00#2) ∧
    (let s := { ready with data0 := 0xFFFFFFFF#32, absPos := 228 }
     s.active = 0 ∧ s.midValid = true ∧ (∀ j, j < 16 → slot s.data0 j ≠ 0b00#2) ∧ 243 < s.absPos + 16) := by
  refine ⟨⟨rfl, rfl, 15, by decide, by decide⟩, rfl, rfl, by decide, by decide⟩

/-- ReadCellCopiesCell, WriteCellStoresStaging and CellAccessRoundTrip, at the last index. -/
theorem witness_cell_access : ready.active = 0 ∧ ready.midValid = true ∧ 728 ≤ 728 := by decide
/-- LANE_PATTERN at the last offset. -/
theorem witness_LanePatternWritesFourCells : ready.active = 0 ∧ ready.midValid = true ∧ 239 ≤ 239 := by decide
/-- ABSORB_INIT right after reset and on a valid MID. -/
theorem witness_AbsorbInitClearsMid : State.reset.active = 0 ∧ ready.active = 0 := by decide
/-- PadRateFillsRate and PermuteTransformsMid. -/
theorem witness_ready : ready.active = 0 ∧ ready.midValid = true := by decide

/-- Sixteen trits: the hold form up to the full rate, the auto form up to one cell below it. -/
theorem witness_AbsorbTritsWithinBlock :
    ∀ c ∈ [(227, false), (226, true)],
      let s := { ready with data0 := 0xFFFFFFFF#32, absPos := c.1 }
      s.active = 0 ∧ s.midValid = true ∧ (List.replicate 16 Trit.zero).length = 16 ∧
        (∀ j, j < 16 → dec (slot s.data0 j) = (List.replicate 16 Trit.zero)[j]?) ∧
        (if c.2 then s.absPos + 16 < 243 else s.absPos + 16 ≤ 243) := by decide

/-- Sixteen trits: to the end of the rate exactly, from the last cell of the rate, and on a full rate. -/
theorem witness_AbsorbTritsClosesBlock :
    ∀ c ∈ [227, 242, 243],
      let s := { ready with data0 := 0xFFFFFFFF#32, absPos := c }
      s.active = 0 ∧ s.midValid = true ∧ (List.replicate 16 Trit.zero).length = 16 ∧
        (∀ j, j < 16 → dec (slot s.data0 j) = (List.replicate 16 Trit.zero)[j]?) ∧
        ((s.absPos < 243 ∧ 243 ≤ s.absPos + 16) ∨ s.absPos = 243) := by decide

/-- The last cell and the last lane, on any buffer. -/
theorem witness_TransformOutputsValidTrits : 728 < 729 ∧ 63 < 64 := by decide
/-- Two buffers that differ in lane 0 only agree in lane 63. -/
theorem witness_TransformKeepsLanesApart :
    63 < 64 ∧ LaneAgrees zeros (setCell zeros 0 ⟨all1, 0xFFFFFFFFFFFFFFFE#64⟩) 63 ∧
      getCell (setCell zeros 0 ⟨all1, 0xFFFFFFFFFFFFFFFE#64⟩) 0 ≠ getCell zeros 0 ∧ UniformCells zeros 0 729 := by
  refine ⟨by decide, fun i hi => ?_, by decide +kernel, uniform_zeros (by omega)⟩
  by_cases h : i = 0
  · subst h; decide +kernel
  · rw [getCell_setCell_other _ _ _ _ h]
theorem witness_TransformIsTritTransformPerLane_cell :
    63 < 64 ∧ laneCode (bcast .neg) 63 = codeOf .neg ∧ laneCode (bcast .pos) 63 = codeOf .pos := by decide
theorem witness_TransformIsTritTransformPerLane : 63 < 64 ∧ LaneHolds zeros 63 fun _ => .zero :=
  ⟨by decide, fun i hi => by
    have h : laneCode (bcast .zero) 63 = codeOf .zero := by decide
    rw [zeros, getCell_replicate _ hi]; exact h⟩

/-- IncCountsOne and IncPeriodHasOneOverflow: the increment over the last cells, and over an empty range. -/
theorem witness_IncCountsOne :
    700 ≤ 729 ∧ 729 ≤ 729 ∧ UniformCells zeros 700 729 ∧ UniformCells zeros 729 729 :=
  ⟨by omega, by omega, uniform_zeros le_rfl, uniform_zeros le_rfl⟩
theorem witness_IncrementWritesOvf :
    ready.active = 0 ∧ ready.midValid = true ∧ 700 ≤ 729 ∧ 729 ≤ 729 ∧ UniformCells ready.mid 700 729 :=
  ⟨rfl, rfl, by omega, by omega, uniform_zeros le_rfl⟩

theorem witness_SearchNonceStarts :
    let s := nonceReady
    (s.active = 0 ∧ s.midValid = true ∧ s.mwm.toNat ≤ 243 ∧ ResolvedCount s 2 ∧ s.partLo.toNat ≤ s.partHi.toNat ∧
      s.partHi.toNat ≤ 243 ∧ s.iterLo.toNat < s.iterHi.toNat ∧ s.iterHi.toNat ≤ 243) ∧
    (s.partLo.toNat < s.partHi.toNat → s.iterHi.toNat ≤ s.partLo.toNat ∨ s.partHi.toNat ≤ s.iterLo.toNat) ∧
    s.absTotal.toNat = s.params.transactionLength ∧ 2 ≤ 3 ^ (s.partHi.toNat - s.partLo.toNat) ∧
    UniformCells s.mid s.partLo.toNat s.partHi.toNat ∧ UniformCells s.mid s.iterLo.toNat s.iterHi.toNat := by
  refine ⟨⟨rfl, rfl, by decide, .inr (by decide), by decide, by decide, by decide, by decide⟩, by decide, by decide,
    by decide, uniform_zeros (by decide), uniform_zeros (by decide)⟩

/-- One state for each clause: MWM = 244; a length of 8018; two workers on an empty partition; a MID with one (0,0)
cell in the iteration range. -/
theorem witness_SearchNonceRejections :
    243 < ({ nonceReady with mwm := 244#8 } : State).mwm.toNat ∧
    ({ nonceReady with absTotal := 8018#32 } : State).absTotal.toNat ≠ nonceReady.params.transactionLength ∧
    (let s := { nonceReady with partHi := 189#8 }
     ResolvedCount s 2 ∧ 3 ^ (s.partHi.toNat - s.partLo.toNat) < 2) ∧
    (let s := { nonceReady with mid := setCell zeros 218 Cell.blank }
     s.active = 0 ∧ s.midValid = true ∧ s.absTotal.toNat = s.params.transactionLength ∧
       ¬ UniformCells s.mid s.iterLo.toNat s.iterHi.toNat) := by
  refine ⟨by decide, by decide, ⟨.inr (by decide), by decide⟩, rfl, rfl, by decide, fun h => ?_⟩
  obtain ⟨t, ht⟩ := h 218 (by decide) (by decide)
  rw [getCell_setCell_same _ _ _ (by decide)] at ht
  exact blank_not_uniform t ht

theorem witness_SearchChecksumStarts :
    let s := checksumReady
    (s.active = 0 ∧ s.midValid = true ∧ ResolvedCount s 4 ∧ 1 ≤ s.targetLength.toNat ∧
      s.ckBase.toNat + s.targetLength.toNat ≤ 243 ∧ s.ckBase.toNat ≤ s.partLo.toNat ∧
      s.partLo.toNat ≤ s.partHi.toNat ∧ s.partHi.toNat ≤ s.iterLo.toNat ∧
      s.iterLo.toNat < s.ckBase.toNat + s.targetLength.toNat ∧ s.sumLength.toNat ≤ 243) ∧
    4 ≤ 3 ^ (s.partHi.toNat - s.partLo.toNat) ∧ UniformCells s.mid s.partLo.toNat s.partHi.toNat ∧
    UniformCells s.mid s.iterLo.toNat 243 := by
  refine ⟨⟨rfl, rfl, .inr (by decide), by decide, by decide, by decide, by decide, by decide, by decide, by decide⟩,
    by decide, uniform_zeros (by decide), uniform_zeros (by decide)⟩

/-- One state for each clause: SUM_LENGTH = 244; four workers on one partition cell; a (0,0) cell at 242. -/
theorem witness_SearchChecksumRejections :
    ¬ ({ checksumReady with sumLength := 244#8 } : State).sumLength.toNat ≤ 243 ∧
    (let s := { checksumReady with partLo := 205#8 }
     ResolvedCount s 4 ∧ 3 ^ (s.partHi.toNat - s.partLo.toNat) < 4) ∧
    (let s := { checksumReady with mid := setCell zeros 242 Cell.blank }
     s.active = 0 ∧ s.midValid = true ∧ ¬ UniformCells s.mid s.iterLo.toNat 243) := by
  refine ⟨by decide, ⟨.inr (by decide), by decide⟩, rfl, rfl, fun h => ?_⟩
  obtain ⟨t, ht⟩ := h 242 (by decide) (by decide)
  rw [getCell_setCell_same _ _ _ (by decide)] at ht
  exact blank_not_uniform t ht

theorem witness_WorkersStartDistinct :
    checksumReady.workers.length = checksumReady.params.nwMax ∧ 1 ≤ checksumReady.params.nwMax ∧
      (∃ t, exec .searchChecksum checksumReady = .next t ∧ t.err = .ok ∧ 2 < 3 ∧ 3 < t.active) := by
  have e (s : State) : exec .searchChecksum s =
      runCommand (checksumChecks s) (startSearch .checksum ((resolveWorkers s).getD 0)) s := rfl
  have h : firstError (checksumChecks checksumReady) = none := by decide +kernel
  refine ⟨rfl, by decide, _, (e _).trans (runCommand_accepted _ _ h), rfl, by omega, ?_⟩
  show 3 < (resolveWorkers checksumReady).getD 0
  decide
theorem witness_CancelStopsRunningSearch :
    (searching .nonce .check 0).flag = .running ∧ ready.flag ≠ .running := by decide

/-- FLAG running, and FLAG cancelled. -/
theorem witness_CheckStepObeysFlag :
    let s := searchMove .nonce .check 0 (.worker 0)
    s.rst = false ∧ 0 < s.workers.length ∧ (s.worker 0).phase = .check ∧ s.inputs = .worker 0 :: [] ∧
      s.flag = .running ∧ ({ s with flag := .cancelled } : State).flag ≠ .running :=
  ⟨rfl, by decide, rfl, rfl, rfl, by decide⟩
theorem witness_NonceIterateFindsLowestHit :
    let s := searchMove .nonce .iterate 0 (.worker 0)
    s.rst = false ∧ 0 < s.workers.length ∧ (s.worker 0).phase = .iterate ∧ s.snap.mode = .nonce ∧ s.snap.mwm ≤ 243 ∧
      s.inputs = .worker 0 :: [] := ⟨rfl, by decide, rfl, rfl, by decide, rfl⟩
theorem witness_BalancedLaneIffZeroSum :
    63 < 64 ∧ ∀ i, i < 729 → laneCode (getCell zeros i) 63 ≠ 0b00#2 :=
  ⟨by decide, fun i hi => by rw [zeros, getCell_replicate _ hi]; decide⟩
/-- Below the ceiling, and at the ceiling without an overflow. -/
theorem witness_ChecksumIterateFindsLowestBalanced :
    (let s := searchMove .checksum .iterate 42 (.worker 0)
     s.rst = false ∧ 0 < s.workers.length ∧ (s.worker 0).phase = .iterate ∧ s.snap.mode = .checksum ∧
       s.snap.sumLength ≤ 243 ∧ s.snap.ckBase + (s.worker 0).ck ≤ 243 ∧ s.inputs = .worker 0 :: [] ∧
       ¬ s.snap.ckBase + (s.worker 0).ck = 243) ∧
    (let s := searchMove .checksum .iterate 43 (.worker 0)
     s.rst = false ∧ 0 < s.workers.length ∧ (s.worker 0).phase = .iterate ∧ s.snap.mode = .checksum ∧
       s.snap.sumLength ≤ 243 ∧ s.snap.ckBase + (s.worker 0).ck = 243 ∧ s.inputs = .worker 0 :: [] ∧
       ¬ (inc (s.worker 0).pre s.snap.iterLo (s.snap.ckBase + (s.worker 0).ck)).1 = true) :=
  ⟨⟨rfl, by decide, rfl, rfl, by decide, by decide, rfl, by decide⟩,
    rfl, by decide, rfl, rfl, by decide, by decide, rfl, by decide +kernel⟩

/-- A worker at the ceiling with one iteration cell, which holds +1. -/
def ceiling : State :=
  { searchMove .checksum .iterate 43 (.worker 0) with
    snap := { (searching .checksum .iterate 43).snap with iterLo := 242 }
    workers :=
      { Worker.blank with pre := setCell zeros 242 (bcast .pos), phase := .iterate, ck := 43 } ::
        List.replicate 3 Worker.blank }
theorem witness_CeilingOverflowExhausts :
    ceiling.rst = false ∧ 0 < ceiling.workers.length ∧ (ceiling.worker 0).phase = .iterate ∧
      ceiling.snap.mode = .checksum ∧ ceiling.snap.ckBase + (ceiling.worker 0).ck = 243 ∧
      (inc (ceiling.worker 0).pre ceiling.snap.iterLo 243).1 = true ∧ ceiling.inputs = .worker 0 :: [] :=
  ⟨rfl, by decide, rfl, rfl, rfl, by decide +kernel, rfl⟩

/-- A waiting worker, one with an answer, an answer to a worker in Check, and an answer to one with a request. -/
theorem witness_VerifyFollowsTheAnswer :
    (let s := verifying (some ⟨0, 0, []⟩) none (.worker 0)
     s.rst = false ∧ 0 < s.workers.length ∧ s.inputs = .worker 0 :: [] ∧ (s.worker 0).phase = .verify ∧
       (s.worker 0).response = none) ∧
    (let s := verifying none (some true) (.worker 0)
     s.rst = false ∧ 0 < s.workers.length ∧ s.inputs = .worker 0 :: [] ∧ (s.worker 0).phase = .verify ∧
       (s.worker 0).response = some true) ∧
    (let s := searchMove .checksum .check 12 (.verifyRsp 0 true)
     s.rst = false ∧ 0 < s.workers.length ∧ s.inputs = .verifyRsp 0 true :: [] ∧ (s.worker 0).phase ≠ .verify) ∧
    (let s := verifying (some ⟨0, 0, []⟩) none (.verifyRsp 0 false)
     s.rst = false ∧ 0 < s.workers.length ∧ s.inputs = .verifyRsp 0 false :: [] ∧ (s.worker 0).phase = .verify ∧
       (s.worker 0).request.isSome = true) :=
  ⟨⟨rfl, by decide, rfl, rfl, rfl⟩, ⟨rfl, by decide, rfl, rfl, rfl⟩, ⟨rfl, by decide, rfl, by decide⟩,
    rfl, by decide, rfl, rfl, rfl⟩
/-- A claim in each mode, with FLAG running and with FLAG completed. -/
theorem witness_ClaimWinsOnlyWhileRunning :
    ∀ m ∈ [Mode.nonce, .checksum],
      let s := searchMove m .claim 12 (.worker 0)
      s.rst = false ∧ 0 < s.workers.length ∧ (s.worker 0).phase = .claim ∧ s.inputs = .worker 0 :: [] ∧
        s.flag = .running ∧ ({ s with flag := .completed } : State).flag ≠ .running :=
  fun _ _ => ⟨rfl, by simp [searchMove, searching], rfl, rfl, rfl, by simp⟩

/-- A worker's step, a read, and a write. -/
theorem witness_PrivateStateStaysPrivate :
    ∀ x ∈ [Input.worker 0, .memRead 0 4, .memWrite 0x14 4 9#32],
      let s := searchMove .nonce .check 0 x
      s.rst = false ∧ s.inputs = x :: [] ∧ ∃ t, step s = .next t := by
  intro x hx
  fin_cases hx <;> exact ⟨rfl, rfl, _, rfl⟩
/-- PrivateStateStaysPrivate: a move of a worker that is Off, and of one that does not exist. -/
theorem witness_off_worker_moves :
    ∀ w ∈ [1, 4],
      let s := searchMove .nonce .check 0 (.worker w)
      s.rst = false ∧ s.inputs = .worker w :: [] ∧ (s.worker w).phase = .off ∧ ∃ t, step s = .next t := by
  intro w hw
  fin_cases hw <;> exact ⟨rfl, rfl, rfl, _, rfl⟩
/-- MidIsConstantWhileBusy and FlagMovesForward: a busy device that goes on. -/
theorem witness_next_while_busy :
    let s := searchMove .nonce .check 0 (.worker 0)
    0 < s.active ∧ ∃ t, step s = .next t := ⟨by decide, _, rfl⟩

/-- FLAG after a step that goes on. -/
def flagAfter (s : State) : Option Flag :=
  match step s with
  | .next t => some t.flag
  | .fault _ => none
  | .refused _ => none

/-- A step that goes on; one that starts a search; one that asserts rst. -/
theorem witness_OnlyTheWinWritesResult :
    (∃ t, step (searchMove .checksum .claim 43 (.worker 0)) = .next t) ∧
    (nonceReady.flag ≠ .running ∧ flagAfter (nonceReady.withFetchWord 32 0x10000000) = some .running) ∧
    (let s := searchMove .nonce .claim 0 (.rst true)
     s.rst = false ∧ ∃ t, step s = .next t ∧ t.rst = true) :=
  ⟨⟨_, rfl⟩, ⟨by decide, by decide +kernel⟩, rfl, _, rfl, rfl⟩

theorem witness_StepKeepsShape : Shape (searchMove .checksum .claim 43 (.worker 0)) where
  paramsWf := test_sample_params_wf
  workers_length := rfl
  active_eq := rfl
  absPos_le := by decide
  hit_lt := by simp [searchMove, searching, Worker.blank]
  slots := by simp [searchMove, searching, SlotsOk, Worker.blank]
  winLane_lt := by decide
  winWorker_le := by decide
  running_busy := by decide
  idle_quiet := by decide
  uninit_quiet := by decide
  held_quiet := by decide
  done_quiet := by decide
  mode_snap := fun _ => rfl
  result_clear := fun _ => ⟨rfl, rfl, rfl, rfl⟩
  exhausted_checksum := by decide

theorem witness_StepKeepsDigits : Digits (searchMove .checksum .claim 43 (.worker 0)) where
  snap_ok := by simp [searchMove, searching, SnapOk]
  workers_ok := by
    intro W hW hp
    simp only [searchMove, searching, List.mem_cons, List.mem_replicate] at hW
    rcases hW with rfl | ⟨-, rfl⟩
    · exact ⟨uniform_zeros (by decide), uniform_zeros (by decide), by decide, by decide⟩
    · exact absurd rfl hp
  resultLen_le := by decide

/-- StepKeepsShape and StepKeepsDigits: the state of the two theorems above goes on. -/
theorem witness_step_of_the_invariants : ∃ t, step (searchMove .checksum .claim 43 (.worker 0)) = .next t := ⟨_, rfl⟩
theorem witness_ResetMeetsInvariants : Config.sampleParams.wf = true := test_sample_params_wf
theorem witness_ResetReadsZero :
    Register.status ≠ .caps ∧ Config.sampleParams.wf = true ∧ Config.sampleParams.nwMax = 4 ∧ Config.sampleParams.transactionLength = 8019 :=
  ⟨by decide, test_sample_params_wf, rfl, rfl⟩
/-- A high level while a worker runs and while rst is held, and a low level likewise. -/
theorem witness_RstResetsTheDevice :
    ∀ level, (searchMove .nonce .claim 0 (.rst level)).inputs = .rst level :: [] ∧
      (let s := { moving (.rst level) with rst := true }
       s.rst = true ∧ s.inputs = .rst level :: []) := fun _ => ⟨rfl, rfl, rfl⟩
/-- Every other kind of move while rst is held. -/
theorem witness_HeldDeviceAcceptsNothing :
    ∀ x ∈ [Input.memRead 0 4, .memWrite 0x0C 4 0#32, .worker 0, .verifyRsp 0 true],
      let s := { moving x with rst := true }
      s.rst = true ∧ s.inputs = x :: [] ∧ ∀ level, x ≠ .rst level := by
  intro x hx
  fin_cases hx <;> exact ⟨rfl, rfl, fun _ => by simp⟩

end Sys2Proof.Tests
end

section
/-! PROOF. What one step can do to the search, said once: it keeps the search state, or it is one of five moves. -/

namespace Sys2Proof.Machine

/-- t has the search state of s. Of what the invariants read besides, DONE and rst may only fall, MID_VALID may only
rise, and ABS_POS stays in the rate: what every move does but a search command, a worker, the verifier and reset. -/
structure SearchKept (s t : State) : Prop where
  params : t.params = s.params
  workers : t.workers = s.workers
  active : t.active = s.active
  flag : t.flag = s.flag
  mode : t.mode = s.mode
  snap : t.snap = s.snap
  result : t.result = s.result
  resultLen : t.resultLen = s.resultLen
  winLane : t.winLane = s.winLane
  winWorker : t.winWorker = s.winWorker
  done : t.done = true → s.done = true
  rst : t.rst = true → s.rst = true
  midValid : s.midValid = true → t.midValid = true
  absPos : s.absPos ≤ 243 → t.absPos ≤ 243

namespace SearchKept

theorem refl (s : State) : SearchKept s s := ⟨rfl, rfl, rfl, rfl, rfl, rfl, rfl, rfl, rfl, rfl, id, id, id, id⟩

theorem trans {s t u : State} (h : SearchKept s t) (h' : SearchKept t u) : SearchKept s u where
  params := h'.params.trans h.params
  workers := h'.workers.trans h.workers
  active := h'.active.trans h.active
  flag := h'.flag.trans h.flag
  mode := h'.mode.trans h.mode
  snap := h'.snap.trans h.snap
  result := h'.result.trans h.result
  resultLen := h'.resultLen.trans h.resultLen
  winLane := h'.winLane.trans h.winLane
  winWorker := h'.winWorker.trans h.winWorker
  done := h.done ∘ h'.done
  rst := h.rst ∘ h'.rst
  midValid := h'.midValid ∘ h.midValid
  absPos := h'.absPos ∘ h.absPos

theorem withErr (s : State) (e : ErrCode) : SearchKept s (s.withErr e) := by constructor <;> simp

theorem withInputs (s : State) (l : List Input) : SearchKept s (s.withInputs l) := by constructor <;> simp

theorem withReadData (s : State) (v : Reg) : SearchKept s (s.withReadData v) := by constructor <;> simp

theorem withMid (s : State) (B : Buffer) : SearchKept s (s.withMid B) := by constructor <;> simp

theorem readHeld (s : State) : SearchKept s (readHeld s) :=
  ⟨rfl, rfl, rfl, rfl, rfl, rfl, rfl, rfl, rfl, rfl, id, id, id, id⟩

/-- A register write: of the search state's neighbours STATUS alone touches DONE (10_state.md R36). -/
theorem writeRegister (r : Register) (v : Reg) (s : State) : SearchKept s (writeRegister r v s) := by
  cases r with
  | status =>
    refine ⟨rfl, rfl, rfl, rfl, rfl, rfl, rfl, rfl, rfl, rfl, fun h => ?_, id, id, id⟩
    exact (Bool.and_eq_true_iff.mp h).1
  | _ => exact ⟨rfl, rfl, rfl, rfl, rfl, rfl, rfl, rfl, rfl, rfl, id, id, id, id⟩

theorem initMid (s : State) : SearchKept s (initMid s) := by constructor <;> simp [Machine.initMid]

theorem padRate (s : State) : SearchKept s (padRate s) := by
  constructor <;> simp [Machine.padRate, Config.hashLength]

theorem permuteMid (s : State) : SearchKept s (permuteMid s) := by constructor <;> simp

theorem closeBlock (s : State) : SearchKept s (closeBlock s) := by constructor <;> simp

theorem incrementMid (lo hi : Nat) (s : State) : SearchKept s (incrementMid lo hi s) := by constructor <;> simp

theorem loadStaging (idx : Nat) (s : State) : SearchKept s (loadStaging idx s) := by constructor <;> simp

end SearchKept

/-- Closing a full rate leaves room for a trit (41_absorber.md R132). -/
theorem closeIfFull_absPos_lt {s : State} (h : s.absPos ≤ 243) : (closeIfFull s).absPos < 243 := by
  unfold closeIfFull Config.hashLength
  split
  · simp
  · omega

theorem SearchKept.closeIfFull (s : State) : SearchKept s (closeIfFull s) := by
  unfold Machine.closeIfFull
  split
  · exact .closeBlock s
  · exact .refl s

/-- A trit that follows the closing of a full rate stays in the rate (41_absorber.md R132). -/
theorem SearchKept.writeTrit_closeIfFull (t : Trit) (s : State) : SearchKept s (writeTrit t (Machine.closeIfFull s)) :=
  { (SearchKept.closeIfFull s) with
    absPos := fun h => Nat.succ_le_of_lt (closeIfFull_absPos_lt h) }

theorem SearchKept.absorbTrit (auto : Bool) (s : State) (t : Trit) : SearchKept s (absorbTrit auto s t) := by
  cases auto
  · exact .writeTrit_closeIfFull t s
  · exact (SearchKept.writeTrit_closeIfFull t s).trans (.closeIfFull _)

theorem SearchKept.foldl_absorbTrit (auto : Bool) (ts : List Trit) (s : State) :
    SearchKept s (ts.foldl (Machine.absorbTrit auto) s) := by
  induction ts generalizing s with
  | nil => exact .refl s
  | cons t ts ih => exact (SearchKept.absorbTrit auto s t).trans (ih _)

theorem SearchKept.absorbAll (auto : Bool) (ts : List Trit) (s : State) : SearchKept s (absorbAll auto ts s) :=
  { SearchKept.foldl_absorbTrit auto ts s with }

/-- The checks of the search command of a mode, in its order (42_nonce_search.md R170, 43_checksum.md R190). -/
def searchChecks : Mode → State → List (Bool × ErrCode)
  | .nonce => nonceChecks
  | .checksum => checksumChecks

/-- What one move can do to the search: nothing, an accepted search command or CANCEL, a step of a worker, an answer
of the verifier, or reset (10_state.md R31; 42_nonce_search.md R179 to R187; 43_checksum.md R206). -/
inductive SearchMove (s : State) : State → Prop where
  | quiet {t : State} (h : SearchKept s t) : SearchMove s t
  | start (m : Mode) (hr : s.rst = false) (h : firstError (searchChecks m s) = none) :
      SearchMove s ((startSearch m ((resolveWorkers s).getD 0) s).withErr .ok)
  | cancel : SearchMove s ((cancelSearch s).withErr .ok)
  | worker (w : Nat) : SearchMove s (workerStep w s)
  | answer (w : Nat) (accept : Bool) : SearchMove s (takeVerifyRsp w accept s)
  | reset : SearchMove s (assertRst s)

/-- A command whose effect keeps the search state keeps it, accepted or rejected. -/
theorem runCommand_searchKept {cs : List (Bool × ErrCode)} {f : State → State} {s t : State}
    (hf : SearchKept s (f s)) (h : runCommand cs f s = .next t) : SearchMove s t := by
  rcases runCommand_next h with ⟨e, -, rfl⟩ | ⟨-, rfl⟩
  · exact .quiet (.withErr s e)
  · exact .quiet (hf.trans (.withErr _ _))

/-- A search command starts a search when every check holds, and keeps the search state otherwise. -/
theorem runSearch_searchMove {m : Mode} {s t : State} (hr : s.rst = false)
    (h : runCommand (searchChecks m s) (startSearch m ((resolveWorkers s).getD 0)) s = .next t) : SearchMove s t := by
  rcases runCommand_next h with ⟨e, -, rfl⟩ | ⟨hc, rfl⟩
  · exact .quiet (.withErr s e)
  · exact .start m hr hc

theorem exec_searchMove {i : Instr} {s t : State} (hr : s.rst = false) (h : exec i s = .next t) : SearchMove s t := by
  cases i with
  | nop => exact runCommand_searchKept (cs := []) (f := id) (.refl s) h
  | absorbInit => exact runCommand_searchKept (.initMid s) h
  | absorbTrits n auto => exact runCommand_searchKept (.absorbAll auto _ s) h
  | padRate => exact runCommand_searchKept (.padRate s) h
  | permute => exact runCommand_searchKept (.permuteMid s) h
  | lanePattern off => exact runCommand_searchKept (.withMid s _) h
  | increment lo hi => exact runCommand_searchKept (.incrementMid lo hi s) h
  | readCell idx => exact runCommand_searchKept (.loadStaging idx s) h
  | writeCell idx => exact runCommand_searchKept (.withMid s _) h
  | searchNonce => exact runSearch_searchMove (m := .nonce) hr h
  | searchChecksum => exact runSearch_searchMove (m := .checksum) hr h
  | cancel =>
    rcases runCommand_next (cs := []) (f := cancelSearch) h with ⟨e, he, -⟩ | ⟨-, rfl⟩
    · cases he
    · exact .cancel

theorem submitCommand_searchMove {w : Reg} {s t : State} (hr : s.rst = false) (h : submitCommand w s = .next t) :
    SearchMove s t := by
  unfold submitCommand at h
  split at h
  · exact exec_searchMove hr h
  · cases h; exact .quiet (.withErr s _)

theorem hostRead_searchMove {addr bytes : Nat} {s t : State} (h : hostRead addr bytes s = .next t) :
    SearchMove s t := by
  unfold hostRead at h
  split at h <;> cases h
  exact .quiet (.withReadData s _)

theorem hostWrite_searchMove {addr bytes : Nat} {v : Reg} {s t : State} (hr : s.rst = false)
    (h : hostWrite addr bytes v s = .next t) : SearchMove s t := by
  unfold hostWrite at h
  split at h
  · exact submitCommand_searchMove hr h
  · cases h; exact .quiet (.writeRegister _ v s)
  · cases h
  · cases h

theorem driveRst_searchMove (level : Bool) (s : State) : SearchMove s (driveRst level s) := by
  cases level
  · exact .quiet ⟨rfl, rfl, rfl, rfl, rfl, rfl, rfl, rfl, rfl, rfl, id, nofun, id, id⟩
  · exact .reset

theorem runInput_searchMove {x : Input} {s t : State} (hr : s.rst = false) (h : runInput x s = .next t) :
    SearchMove s t := by
  cases x with
  | memRead addr bytes => exact hostRead_searchMove h
  | memWrite addr bytes v => exact hostWrite_searchMove hr h
  | worker w => cases h; exact .worker w
  | verifyRsp w accept => cases h; exact .answer w accept
  | rst level => cases h; exact driveRst_searchMove level s

theorem runInputHeld_searchMove (x : Input) (s : State) : SearchMove s (runInputHeld x s) := by
  cases x with
  | memRead addr bytes => exact .quiet (.readHeld s)
  | rst level => exact driveRst_searchMove level s
  | _ => exact .quiet (.refl s)

/-- Every step is one of the moves, made by the device with the move taken off its list. -/
theorem step_searchMove {s t : State} (h : step s = .next t) : ∃ rest, SearchMove (s.withInputs rest) t := by
  rcases step_cases s with ⟨-, hs⟩ | ⟨x, rest, -, hs⟩ <;> rw [hs] at h
  · cases h; exact ⟨s.inputs, .quiet (.refl s)⟩
  · refine ⟨rest, ?_⟩
    unfold takeInput at h
    split at h
    · cases h; exact runInputHeld_searchMove x _
    · rename_i hr; exact runInput_searchMove (Bool.eq_false_iff.mpr hr) h

end Sys2Proof.Machine
end

section
/-! PROOF. Every move keeps the shape of the device. -/

namespace Sys2Proof.Machine

open Sys2Proof.Safety

/-! The workers: their slots, their hit lane, and how many of them run. -/

/-- The lowest lane of a mask is a lane (00_scope.md R14). -/
theorem lowestLane_lt (m : Word) : lowestLane m < 64 := by
  unfold lowestLane
  cases h : (List.range Config.lanes).find? fun b => m.getLsbD b with
  | none => decide
  | some b => exact List.mem_range.mp (List.mem_of_find?_eq_some h)

/-- No request is out and no answer is waiting (43_checksum.md R205, R206). -/
def SlotsEmpty (W : Worker) : Prop := W.request = none ∧ W.response = none

theorem slotsOk_of_ne_verify {W : Worker} (h : W.phase ≠ .verify) : SlotsOk W ↔ SlotsEmpty W := by
  simp [SlotsOk, SlotsEmpty, h]

/-- After a test of the predicate a worker is in Check, or in the phase that a hit leads to (42_nonce_search.md
R183). -/
theorem afterTest_phase_ne {onHit p : Phase} (hcheck : .check ≠ p) (hhit : onHit ≠ p) (W : Worker) (S : Buffer)
    (mask : Buffer → Word) : (afterTest W S mask onHit).phase ≠ p := by
  unfold afterTest
  dsimp only
  split
  · exact hcheck
  · exact hhit

theorem afterTest_hit_lt {W : Worker} (h : W.hit < 64) (S : Buffer) (mask : Buffer → Word) (onHit : Phase) :
    (afterTest W S mask onHit).hit < 64 := by
  unfold afterTest
  dsimp only
  split
  · exact h
  · exact lowestLane_lt _

theorem afterTest_slotsEmpty {W : Worker} (h : SlotsEmpty W) (S : Buffer) (mask : Buffer → Word) (onHit : Phase) :
    SlotsEmpty (afterTest W S mask onHit) := by
  unfold afterTest
  dsimp only
  split <;> exact h

/-- A worker that still runs, with its slots and its hit lane in order: what an Iterate leaves behind. -/
structure RunningOk (W : Worker) : Prop where
  running : W.phase ≠ .off
  hit_lt : W.hit < 64
  slots : SlotsOk W

theorem iterateNonce_runningOk (c : Snap) {W : Worker} (hhit : W.hit < 64) (hslots : SlotsEmpty W) :
    RunningOk (iterateNonce c W) := by
  unfold iterateNonce
  exact
    { running := afterTest_phase_ne (by decide) (by decide) _ _ _
      hit_lt := afterTest_hit_lt hhit _ _ _
      slots := (slotsOk_of_ne_verify (afterTest_phase_ne (by decide) (by decide) _ _ _)).mpr
        (afterTest_slotsEmpty hslots _ _ _) }

/-- A request goes out exactly with the phase Verify (43_checksum.md R197, R205). -/
theorem sendVerify_slotsOk (c : Snap) (w : Nat) {W : Worker} (h : SlotsEmpty W) : SlotsOk (sendVerify c w W) := by
  unfold sendVerify
  split
  · rename_i hp; simp [SlotsOk, hp, h.2]
  · rename_i hp; exact (slotsOk_of_ne_verify hp).mpr h

@[simp] theorem sendVerify_phase (c : Snap) (w : Nat) (W : Worker) : (sendVerify c w W).phase = W.phase := by
  unfold sendVerify; split <;> rfl

@[simp] theorem sendVerify_hit (c : Snap) (w : Nat) (W : Worker) : (sendVerify c w W).hit = W.hit := by
  unfold sendVerify; split <;> rfl

theorem iterateChecksum_runningOk (c : Snap) (w : Nat) {W : Worker} (hhit : W.hit < 64) (hslots : SlotsEmpty W) :
    RunningOk (iterateChecksum c w W) := by
  have hon : (if c.verifyEn then Phase.verify else .claim) ≠ .off := by split <;> decide
  unfold iterateChecksum
  exact
    { running := (sendVerify_phase _ _ _).trans_ne (afterTest_phase_ne (by decide) hon _ _ _)
      hit_lt := (sendVerify_hit _ _ _).trans_lt (afterTest_hit_lt (by exact hhit) _ _ _)
      slots := sendVerify_slotsOk c w (afterTest_slotsEmpty (by exact hslots) _ _ _) }

/-- A worker that takes a step exists. -/
theorem State.worker_lt {s : State} {w : Nat} (h : (s.worker w).phase ≠ .off) : w < s.workers.length := by
  by_contra hw
  rw [State.worker_of_length_le s w (Nat.not_lt.mp hw)] at h
  exact h rfl

theorem State.worker_eq_getElem {s : State} {w : Nat} (h : w < s.workers.length) : s.worker w = s.workers[w] := by
  simp [State.worker, List.getD, h]

theorem State.worker_mem {s : State} {w : Nat} (h : (s.worker w).phase ≠ .off) : s.worker w ∈ s.workers := by
  rw [State.worker_eq_getElem (State.worker_lt h)]; exact List.getElem_mem _

/-- A worker that runs counts for ACTIVE (10_state.md R35). -/
theorem activeCount_pos {s : State} {w : Nat} (h : (s.worker w).phase ≠ .off) : 0 < activeCount s.workers :=
  List.countP_pos_iff.mpr ⟨_, State.worker_mem h, by simpa using h⟩

/-- One worker changes and goes on running. -/
theorem activeCount_set_running {s : State} {w : Nat} {W : Worker} (h : (s.worker w).phase ≠ .off)
    (hW : W.phase ≠ .off) : activeCount (s.workers.set w W) = activeCount s.workers := by
  have hpos := activeCount_pos h
  have hlt := State.worker_lt h
  rw [State.worker_eq_getElem hlt] at h
  unfold activeCount at hpos ⊢
  rw [List.countP_set hlt, if_pos (decide_eq_true h), if_pos (decide_eq_true hW), Nat.sub_add_cancel hpos]

/-- One worker stops. -/
theorem activeCount_set_off {s : State} {w : Nat} {W : Worker} (h : (s.worker w).phase ≠ .off)
    (hW : W.phase = .off) : activeCount (s.workers.set w W) = activeCount s.workers - 1 := by
  have hlt := State.worker_lt h
  rw [State.worker_eq_getElem hlt] at h
  unfold activeCount
  rw [List.countP_set hlt]
  simp [h, hW]

theorem activeCount_eq_zero {ws : List Worker} : activeCount ws = 0 ↔ ∀ W ∈ ws, W.phase = .off := by
  simp [activeCount, List.countP_eq_zero]

/-- Of a list of stopped workers the first n are started: n of them run (42_nonce_search.md R180). -/
theorem activeCount_mapIdx_start {n : Nat} {ws : List Worker} (g : Nat → Worker → Worker)
    (hg : ∀ w W, (g w W).phase ≠ .off) (hoff : ∀ W ∈ ws, W.phase = .off) (hn : n ≤ ws.length) :
    activeCount (ws.mapIdx fun w W => if w < n then g w W else W) = n := by
  induction ws generalizing n g with
  | nil => simp only [List.length_nil, Nat.le_zero] at hn; subst hn; rfl
  | cons V ws ih =>
    cases n with
    | zero =>
      refine activeCount_eq_zero.mpr fun W hW => ?_
      obtain ⟨w, hw, rfl⟩ := List.mem_mapIdx.mp hW
      exact hoff _ (List.getElem_mem hw)
    | succ n =>
      have h := ih (n := n) (fun w => g (w + 1)) (fun w => hg (w + 1))
        (fun W hW => hoff W (List.mem_cons_of_mem _ hW)) (Nat.le_of_succ_le_succ hn)
      simp only [List.mapIdx_cons, Nat.zero_lt_succ, if_true, Nat.add_lt_add_iff_right]
      rw [activeCount, List.countP_cons_of_pos (by simpa using hg 0 V), ← activeCount, h]

theorem activeCount_spawn {n : Nat} {ws : List Worker} (c : Snap) (mid : Buffer) (hoff : activeCount ws = 0)
    (hn : n ≤ ws.length) : activeCount (spawn n c mid ws) = n :=
  activeCount_mapIdx_start (spawnWorker c mid) (fun _ _ => by simp [spawnWorker]) (activeCount_eq_zero.mp hoff) hn

@[simp] theorem spawn_length (n : Nat) (c : Snap) (mid : Buffer) (ws : List Worker) :
    (spawn n c mid ws).length = ws.length := by simp [spawn]

/-- A spawned worker is an old one, started or as it was. -/
theorem mem_spawn {n : Nat} {c : Snap} {mid : Buffer} {ws : List Worker} {W : Worker} (h : W ∈ spawn n c mid ws) :
    ∃ V ∈ ws, W = V ∨ ∃ w, W = spawnWorker c mid w V := by
  obtain ⟨w, hw, rfl⟩ := List.mem_mapIdx.mp h
  refine ⟨ws[w], List.getElem_mem _, ?_⟩
  split
  · exact .inr ⟨w, rfl⟩
  · exact .inl rfl

/-! What the checks of a search command say of the state that passes them. -/

theorem readyChecks_none {s : State} {l : List (Bool × ErrCode)} (h : firstError (readyChecks s ++ l) = none) :
    s.active = 0 ∧ s.midValid = true := by
  have hall := (firstError_eq_none_iff _).mp h
  have hbusy := hall (s.busy, .busy) (by simp [readyChecks])
  have hvalid := hall (!s.midValid, .uninit) (by simp [readyChecks])
  simp only [State.busy, decide_eq_false_iff_not, Nat.not_lt, Nat.le_zero, Bool.not_eq_false'] at hbusy hvalid
  exact ⟨hbusy, hvalid⟩

/-- A search starts on a device that is not busy and whose MID is valid (42_nonce_search.md R170, 43_checksum.md
R190). -/
theorem searchChecks_ready {m : Mode} {s : State} (h : firstError (searchChecks m s) = none) :
    s.active = 0 ∧ s.midValid = true := by
  cases m <;> exact readyChecks_none h

theorem searchChecks_workers {m : Mode} {s : State} (h : firstError (searchChecks m s) = none) :
    ∃ n, resolveWorkers s = some n := by
  have hall := (firstError_eq_none_iff _).mp h
  have hsome := hall ((resolveWorkers s).isNone, .range)
    (by cases m <;> simp [searchChecks, nonceChecks, checksumChecks])
  exact Option.isSome_iff_exists.mp (by simpa using hsome)

/-- The ranges of the parameters (00_scope.md R9). -/
theorem Params.wf_bounds {p : Params} (h : p.wf = true) :
    1 ≤ p.nwMax ∧ p.nwMax ≤ 255 ∧ p.transactionLength ≤ 65535 := by
  simp only [Params.wf, Bool.and_eq_true, decide_eq_true_eq] at h
  omega

/-- A search has at least one worker and at most NW_MAX (42_nonce_search.md R173). -/
theorem resolveWorkers_bounds {s : State} {n : Nat} (hp : 1 ≤ s.params.nwMax) (h : resolveWorkers s = some n) :
    0 < n ∧ n ≤ s.params.nwMax := by
  unfold resolveWorkers at h
  split at h
  · cases h; omega
  · rename_i hzero
    have hpos : s.nworkers.toNat ≠ 0 := fun h0 => hzero (BitVec.eq_of_toNat_eq h0)
    split at h <;> cases h
    omega

end Sys2Proof.Machine

namespace Sys2Proof.Safety

open Sys2Proof.Machine

namespace Shape

/-- Shape speaks of the search state and its neighbours alone. -/
theorem of_kept {s t : State} (hs : Shape s) (h : SearchKept s t) : Shape t where
  paramsWf := h.params ▸ hs.paramsWf
  workers_length := by rw [h.workers, h.params]; exact hs.workers_length
  active_eq := by rw [h.active, h.workers]; exact hs.active_eq
  absPos_le := h.absPos hs.absPos_le
  hit_lt := h.workers ▸ hs.hit_lt
  slots := h.workers ▸ hs.slots
  winLane_lt := h.winLane ▸ hs.winLane_lt
  winWorker_le := h.winWorker ▸ hs.winWorker_le
  running_busy := by rw [h.flag, h.active]; exact hs.running_busy
  idle_quiet := by rw [h.flag, h.active]; exact hs.idle_quiet
  uninit_quiet := fun ht => h.active.trans (hs.uninit_quiet
    (Bool.eq_false_iff.mpr fun hv => Bool.eq_false_iff.mp ht (h.midValid hv)))
  held_quiet := fun ht => h.active.trans (hs.held_quiet (h.rst ht))
  done_quiet := fun ht => h.active.trans (hs.done_quiet (h.done ht))
  mode_snap := by rw [h.active, h.snap, h.mode]; exact hs.mode_snap
  result_clear := by
    unfold ResultClear
    rw [h.flag, h.result, h.resultLen, h.winLane, h.winWorker]
    exact hs.result_clear
  exhausted_checksum := by rw [h.flag, h.mode]; exact hs.exhausted_checksum

theorem worker_hit_lt {s : State} (hs : Shape s) {w : Nat} (h : (s.worker w).phase ≠ .off) : (s.worker w).hit < 64 :=
  hs.hit_lt _ (State.worker_mem h)

/-- A running worker outside Verify has empty slots. -/
theorem slotsEmpty {s : State} (hs : Shape s) {w : Nat} (h : (s.worker w).phase ≠ .off)
    (hv : (s.worker w).phase ≠ .verify) : SlotsEmpty (s.worker w) :=
  (slotsOk_of_ne_verify hv).mp (hs.slots _ (State.worker_mem h))

theorem active_pos {s : State} (hs : Shape s) {w : Nat} (h : (s.worker w).phase ≠ .off) : 0 < s.active :=
  hs.active_eq ▸ activeCount_pos h

/-- A running worker that changes and goes on running. -/
theorem withWorker {s : State} (hs : Shape s) {w : Nat} {W : Worker} (h : (s.worker w).phase ≠ .off)
    (hW : RunningOk W) : Shape (s.withWorker w W) :=
  { hs with
    workers_length := (State.withWorker_length s w W).trans hs.workers_length
    active_eq := hs.active_eq.trans (activeCount_set_running h hW.running).symm
    hit_lt := fun V hV => (List.mem_or_eq_of_mem_set hV).elim (hs.hit_lt V) (· ▸ hW.hit_lt)
    slots := fun V hV => (List.mem_or_eq_of_mem_set hV).elim (hs.slots V) (· ▸ hW.slots) }

/-- A running worker stops. In a nonce search it finds FLAG no longer Running, so no nonce search ends Exhausted
(42_nonce_search.md R185, R187). -/
theorem stopWorker {s : State} (hs : Shape s) {w : Nat} (h : (s.worker w).phase ≠ .off)
    (hv : (s.worker w).phase ≠ .verify) (hm : s.flag = .running → s.mode = .checksum) : Shape (stopWorker w s) where
  paramsWf := hs.paramsWf
  workers_length := (State.withWorker_length s w _).trans hs.workers_length
  active_eq := (congrArg (· - 1) hs.active_eq).trans (activeCount_set_off h rfl).symm
  absPos_le := hs.absPos_le
  hit_lt := fun V hV => (List.mem_or_eq_of_mem_set hV).elim (hs.hit_lt V) (· ▸ hs.worker_hit_lt h)
  slots := fun V hV => (List.mem_or_eq_of_mem_set hV).elim (hs.slots V) fun e =>
    e ▸ (slotsOk_of_ne_verify (by simp)).mpr (hs.slotsEmpty h hv)
  winLane_lt := hs.winLane_lt
  winWorker_le := hs.winWorker_le
  running_busy := by
    rw [stopWorker_flag, stopWorker_active]
    split
    · nofun
    · rename_i hne; intro hf; exact Nat.pos_of_ne_zero fun h0 => hne ⟨h0, hf⟩
  idle_quiet := by
    rw [stopWorker_flag, stopWorker_active]
    split
    · nofun
    · intro hf; rw [hs.idle_quiet hf]
  uninit_quiet := fun hu => congrArg (· - 1) (hs.uninit_quiet hu)
  held_quiet := fun hr => congrArg (· - 1) (hs.held_quiet hr)
  done_quiet := by
    rw [stopWorker_done, stopWorker_active]
    split
    · rename_i h0; exact fun _ => h0
    · intro hd; rw [hs.done_quiet hd]
  mode_snap := fun hp => hs.mode_snap (Nat.lt_of_lt_of_le hp (Nat.sub_le _ _))
  result_clear := by
    rw [stopWorker_flag]
    split
    · rename_i hr; exact fun _ => hs.result_clear (by simp [hr.2])
    · exact hs.result_clear
  exhausted_checksum := by
    rw [stopWorker_flag]
    split
    · rename_i hr; exact fun _ => hm hr.2
    · exact hs.exhausted_checksum

/-- A win fills the result and takes FLAG to Completed (42_nonce_search.md R184). -/
theorem winSearch {s : State} (hs : Shape s) {w : Nat} (h : (s.worker w).phase ≠ .off) : Shape (winSearch w s) :=
  { hs with
    winLane_lt := hs.worker_hit_lt h
    winWorker_le := by
      have hlt := State.worker_lt h
      have hmax := (Params.wf_bounds hs.paramsWf).2.1
      rw [hs.workers_length] at hlt
      exact Nat.le_of_lt_succ (Nat.lt_of_lt_of_le hlt hmax)
    running_busy := nofun
    idle_quiet := nofun
    result_clear := fun hf => absurd rfl hf
    exhausted_checksum := nofun }

theorem iterateStep {s : State} (hs : Shape s) {w : Nat} (h : (s.worker w).phase = .iterate) :
    Shape (iterateStep w s) := by
  have hon : (s.worker w).phase ≠ .off := by simp [h]
  have hempty := hs.slotsEmpty hon (by simp [h])
  have hhit := hs.worker_hit_lt hon
  unfold Machine.iterateStep
  split
  · exact hs.withWorker hon (iterateNonce_runningOk s.snap hhit hempty)
  · rename_i hm
    split
    · have hW : RunningOk { s.worker w with pre := (checksumInc s.snap (s.worker w)).2 } :=
        ⟨hon, hhit, (slotsOk_of_ne_verify (by simp [h])).mpr hempty⟩
      have hphase : ((s.withWorker w { s.worker w with pre := (checksumInc s.snap (s.worker w)).2 }).worker w).phase
          = .iterate := by rw [State.worker_withWorker_same _ _ _ (State.worker_lt hon)]; exact h
      exact (hs.withWorker hon hW).stopWorker (by simp [hphase]) (by simp [hphase])
        fun _ => (hs.mode_snap (hs.active_pos hon)).symm.trans hm
    · exact hs.withWorker hon (iterateChecksum_runningOk s.snap w hhit hempty)

theorem verifyStep {s : State} (hs : Shape s) {w : Nat} (h : (s.worker w).phase = .verify) :
    Shape (verifyStep w s) := by
  have hon : (s.worker w).phase ≠ .off := by simp [h]
  unfold Machine.verifyStep
  split
  · exact hs
  · rename_i accept hr
    have hreq : (s.worker w).request = none := by
      have hslots := hs.slots _ (State.worker_mem hon)
      simpa [SlotsOk, h, hr] using hslots
    refine hs.withWorker hon ⟨?_, hs.worker_hit_lt hon, (slotsOk_of_ne_verify ?_).mpr ⟨hreq, rfl⟩⟩ <;>
      cases accept <;> simp

theorem claimStep {s : State} (hs : Shape s) {w : Nat} (h : (s.worker w).phase = .claim) : Shape (claimStep w s) := by
  have hon : (s.worker w).phase ≠ .off := by simp [h]
  have hv : (s.worker w).phase ≠ .verify := by simp [h]
  unfold Machine.claimStep
  split
  · exact (hs.winSearch hon).stopWorker hon hv nofun
  · rename_i hf; exact hs.stopWorker hon hv fun hr => absurd hr hf

theorem checkStep {s : State} (hs : Shape s) {w : Nat} (h : (s.worker w).phase = .check) : Shape (checkStep w s) := by
  have hon : (s.worker w).phase ≠ .off := by simp [h]
  have hv : (s.worker w).phase ≠ .verify := by simp [h]
  unfold Machine.checkStep
  split
  · have hempty := hs.slotsEmpty hon hv
    exact hs.withWorker hon ⟨nofun, hs.worker_hit_lt hon, (slotsOk_of_ne_verify (by simp)).mpr hempty⟩
  · rename_i hf; exact hs.stopWorker hon hv fun hr => absurd hr hf

theorem workerStep {s : State} (hs : Shape s) (w : Nat) : Shape (workerStep w s) := by
  unfold Machine.workerStep
  split
  · exact hs
  · rename_i h; exact hs.checkStep h
  · rename_i h; exact hs.iterateStep h
  · rename_i h; exact hs.verifyStep h
  · rename_i h; exact hs.claimStep h

theorem takeVerifyRsp {s : State} (hs : Shape s) (w : Nat) (accept : Bool) : Shape (takeVerifyRsp w accept s) := by
  rcases takeVerifyRsp_cases w accept s with h | ⟨hp, -, h⟩ <;> rw [h]
  · exact hs
  · have hon : (s.worker w).phase ≠ .off := by simp [hp]
    exact hs.withWorker hon ⟨hon, hs.worker_hit_lt hon, by simp [SlotsOk, hp]⟩

/-- A search starts on a device without running workers, with at least one worker (42_nonce_search.md R179, R180). -/
theorem startSearch {s : State} (hs : Shape s) {m : Mode} (hr : s.rst = false)
    (h : firstError (searchChecks m s) = none) : Shape (startSearch m ((resolveWorkers s).getD 0) s) := by
  obtain ⟨hactive, hvalid⟩ := searchChecks_ready h
  obtain ⟨n, hn⟩ := searchChecks_workers h
  obtain ⟨hpos, hle⟩ := resolveWorkers_bounds (Params.wf_bounds hs.paramsWf).1 hn
  have hoff : activeCount s.workers = 0 := hs.active_eq.symm.trans hactive
  rw [hn, Option.getD_some]
  exact
    { paramsWf := hs.paramsWf
      workers_length := (spawn_length _ _ _ _).trans hs.workers_length
      active_eq := (activeCount_spawn _ _ hoff (hs.workers_length ▸ hle)).symm
      absPos_le := hs.absPos_le
      hit_lt := fun W hW => by
        obtain ⟨V, hV, rfl | ⟨w, rfl⟩⟩ := mem_spawn hW
        · exact hs.hit_lt W hV
        · exact hs.hit_lt V hV
      slots := fun W hW => by
        obtain ⟨V, hV, rfl | ⟨w, rfl⟩⟩ := mem_spawn hW
        · exact hs.slots W hV
        · have hVoff := activeCount_eq_zero.mp hoff V hV
          have hempty := (slotsOk_of_ne_verify (by simp [hVoff])).mp (hs.slots V hV)
          exact (slotsOk_of_ne_verify (by simp [spawnWorker])).mpr hempty
      winLane_lt := Nat.zero_lt_succ 63
      winWorker_le := Nat.zero_le 254
      running_busy := fun _ => hpos
      idle_quiet := nofun
      uninit_quiet := fun hu => absurd (hvalid.symm.trans hu) nofun
      held_quiet := fun hheld => absurd (hr.symm.trans hheld) nofun
      done_quiet := nofun
      mode_snap := fun _ => rfl
      result_clear := fun _ => ⟨rfl, rfl, rfl, rfl⟩
      exhausted_checksum := nofun }

theorem cancelSearch {s : State} (hs : Shape s) : Shape (cancelSearch s) := by
  unfold Machine.cancelSearch
  split
  · rename_i hf
    exact { hs with running_busy := nofun, idle_quiet := nofun, exhausted_checksum := nofun,
                    result_clear := fun _ => hs.result_clear (by simp [hf]) }
  · exact hs

/-- The device right after reset. -/
theorem resetOf {p : Params} (hp : p.wf = true) : Shape (State.resetOf p) where
  paramsWf := hp
  workers_length := List.length_replicate
  active_eq := (activeCount_eq_zero.mpr fun W hW => by rw [List.eq_of_mem_replicate hW]; rfl).symm
  absPos_le := Nat.zero_le 243
  hit_lt := fun W hW => by rw [List.eq_of_mem_replicate hW]; decide
  slots := fun W hW => by rw [List.eq_of_mem_replicate hW]; exact ⟨rfl, rfl⟩
  winLane_lt := Nat.zero_lt_succ 63
  winWorker_le := Nat.zero_le 254
  running_busy := nofun
  idle_quiet := fun _ => rfl
  uninit_quiet := fun _ => rfl
  held_quiet := fun _ => rfl
  done_quiet := fun _ => rfl
  mode_snap := fun _ => rfl
  result_clear := fun _ => ⟨rfl, rfl, rfl, rfl⟩
  exhausted_checksum := nofun

theorem assertRst {s : State} (hs : Shape s) : Shape (assertRst s) :=
  { resetOf hs.paramsWf with held_quiet := fun _ => rfl }

/-- Every move keeps the shape. -/
theorem searchMove {s t : State} (hs : Shape s) (h : SearchMove s t) : Shape t := by
  cases h with
  | quiet h => exact hs.of_kept h
  | start m hr h => exact (hs.startSearch hr h).of_kept (.withErr _ _)
  | cancel => exact hs.cancelSearch.of_kept (.withErr _ _)
  | worker w => exact hs.workerStep w
  | answer w accept => exact hs.takeVerifyRsp w accept
  | reset => exact hs.assertRst

end Shape

end Sys2Proof.Safety

namespace Sys2Proof.Machine

open Sys2Proof.Safety

@[simp] theorem workerStep_params (w : Nat) (s : State) : (workerStep w s).params = s.params := by
  rcases workerStep_cases w s with h | ⟨W, h⟩ | ⟨-, -, -, h⟩ | ⟨-, -, h⟩ | ⟨-, -, h⟩ <;> simp [h]

@[simp] theorem takeVerifyRsp_params (w : Nat) (accept : Bool) (s : State) :
    (takeVerifyRsp w accept s).params = s.params := by
  rcases takeVerifyRsp_cases w accept s with h | ⟨-, -, h⟩ <;> simp [h]

/-- No move writes the parameters (00_scope.md R9). -/
theorem SearchMove.params {s t : State} (h : SearchMove s t) : t.params = s.params := by
  cases h with
  | quiet h => exact h.params
  | worker w => exact workerStep_params w s
  | answer w accept => exact takeVerifyRsp_params w accept s
  | _ => rfl

/-- Settles O55: every step is a move, and each of the six kinds of move keeps the shape and the parameters. -/
theorem stepKeepsShape : Obligations.StepKeepsShape := by
  intro s t hs h
  obtain ⟨rest, hmove⟩ := step_searchMove h
  exact ⟨(hs.of_kept (.withInputs s rest)).searchMove hmove, hmove.params⟩

end Sys2Proof.Machine
end

section
/-! PROOF. FLAG and the result along one move. -/

namespace Sys2Proof.Machine

open Sys2Proof.Safety

/-- t has the result of s (10_state.md R29). -/
def ResultKept (s t : State) : Prop :=
  t.result = s.result ∧ t.resultLen = s.resultLen ∧ t.winLane = s.winLane ∧ t.winWorker = s.winWorker

/-! A worker's step and the verifier's answer. -/

@[simp] theorem takeVerifyRsp_flag (w : Nat) (accept : Bool) (s : State) :
    (takeVerifyRsp w accept s).flag = s.flag := by
  rcases takeVerifyRsp_cases w accept s with h | ⟨-, -, h⟩ <;> simp [h]

@[simp] theorem takeVerifyRsp_rst (w : Nat) (accept : Bool) (s : State) :
    (takeVerifyRsp w accept s).rst = s.rst := by
  rcases takeVerifyRsp_cases w accept s with h | ⟨-, -, h⟩ <;> simp [h]

theorem takeVerifyRsp_resultKept (w : Nat) (accept : Bool) (s : State) :
    ResultKept s (takeVerifyRsp w accept s) := by
  rcases takeVerifyRsp_cases w accept s with h | ⟨-, -, h⟩ <;> simp [h, ResultKept]

@[simp] theorem workerStep_rst (w : Nat) (s : State) : (workerStep w s).rst = s.rst := by
  rcases workerStep_cases w s with h | ⟨W, h⟩ | ⟨-, -, -, h⟩ | ⟨-, -, h⟩ | ⟨-, -, h⟩ <;> simp [h]

/-- A stop leaves FLAG as it is, or ends a running search as Exhausted (42_nonce_search.md R185). -/
theorem stopWorker_flag_cases (w : Nat) (s : State) :
    (stopWorker w s).flag = s.flag ∨ (s.flag = .running ∧ (stopWorker w s).flag = .exhausted) := by
  rw [stopWorker_flag]
  split
  · rename_i h; exact .inr ⟨h.2, rfl⟩
  · exact .inl rfl

/-- A stop after a win leaves FLAG Completed (42_nonce_search.md R184, R185). -/
@[simp] theorem stopWorker_winSearch_flag (w : Nat) (s : State) :
    (stopWorker w (winSearch w s)).flag = .completed := by
  simp [stopWorker_flag, winSearch]

/-- A worker's step leaves FLAG as it is, or ends a running search as Completed or Exhausted (10_state.md R31). -/
theorem workerStep_flag_cases (w : Nat) (s : State) :
    (workerStep w s).flag = s.flag ∨
    (s.flag = .running ∧ ((workerStep w s).flag = .completed ∨ (workerStep w s).flag = .exhausted)) := by
  rcases workerStep_cases w s with h | ⟨W, h⟩ | ⟨-, -, -, h⟩ | ⟨-, hf, h⟩ | ⟨-, hf, h⟩ <;> rw [h]
  · exact .inl rfl
  · exact .inl rfl
  · exact (stopWorker_flag_cases w _).imp id fun hx => ⟨hx.1, .inr hx.2⟩
  · exact .inl ((stopWorker_flag_cases w s).resolve_right fun hx => hf hx.1)
  · exact .inr ⟨hf, .inl (stopWorker_winSearch_flag w s)⟩

/-- A worker's step leaves the result as it is, or it is the winning Claim (42_nonce_search.md R184). -/
theorem workerStep_result_cases (w : Nat) (s : State) :
    ResultKept s (workerStep w s) ∨
    (s.flag = .running ∧ (workerStep w s).flag = .completed ∧
      (s.worker (workerStep w s).winWorker).phase = .claim) := by
  rcases workerStep_cases w s with h | ⟨W, h⟩ | ⟨-, -, -, h⟩ | ⟨-, -, h⟩ | ⟨hp, hf, h⟩ <;> rw [h]
  · exact .inl ⟨rfl, rfl, rfl, rfl⟩
  · exact .inl ⟨rfl, rfl, rfl, rfl⟩
  · exact .inl ⟨rfl, rfl, rfl, rfl⟩
  · exact .inl ⟨rfl, rfl, rfl, rfl⟩
  · exact .inr ⟨hf, stopWorker_winSearch_flag w s, hp⟩

/-! CANCEL, a search start and reset. -/

/-- CANCEL takes a running search to Cancelled and leaves FLAG as it is otherwise (42_nonce_search.md R186). -/
theorem cancelSearch_flag_cases (s : State) :
    (cancelSearch s).flag = s.flag ∨ (s.flag = .running ∧ (cancelSearch s).flag = .cancelled) := by
  by_cases hf : s.flag = .running <;> simp [cancelSearch, hf]

@[simp] theorem startSearch_flag (m : Mode) (n : Nat) (s : State) : (startSearch m n s).flag = .running := rfl

/-- A search starts with a clear result (42_nonce_search.md R179). -/
theorem startSearch_resultClear (m : Mode) (n : Nat) (s : State) : ResultClear ((startSearch m n s).withErr .ok) :=
  ⟨rfl, rfl, rfl, rfl⟩

theorem assertRst_resultClear (s : State) : ResultClear (assertRst s) := ⟨rfl, rfl, rfl, rfl⟩

namespace SearchMove

/-- FLAG along a move (10_state.md R31). -/
theorem flag_cases {s t : State} (h : SearchMove s t) :
    t.flag = s.flag ∨
    (s.flag = .running ∧ (t.flag = .completed ∨ t.flag = .cancelled ∨ t.flag = .exhausted)) ∨
    (s.flag ≠ .running ∧ t.flag = .running ∧ s.active = 0) ∨
    (t.flag = .idle ∧ t.rst = true) := by
  cases h with
  | quiet h => exact .inl h.flag
  | start m hr h =>
    by_cases hf : s.flag = .running
    · exact .inl hf.symm
    · exact .inr (.inr (.inl ⟨hf, rfl, (searchChecks_ready h).1⟩))
  | cancel => exact (cancelSearch_flag_cases s).imp id fun hx => .inl ⟨hx.1, .inr (.inl hx.2)⟩
  | worker w =>
    rcases workerStep_flag_cases w s with h | ⟨hf, h | h⟩
    · exact .inl h
    · exact .inr (.inl ⟨hf, .inl h⟩)
    · exact .inr (.inl ⟨hf, .inr (.inr h)⟩)
  | answer w accept => exact .inl (takeVerifyRsp_flag w accept s)
  | reset => exact .inr (.inr (.inr ⟨rfl, rfl⟩))

/-- The result along a move (10_state.md R29, 42_nonce_search.md R187). -/
theorem result_cases {s t : State} (h : SearchMove s t) :
    ResultKept s t ∨
    (s.flag = .running ∧ t.flag = .completed ∧ (s.worker t.winWorker).phase = .claim) ∨
    (s.active = 0 ∧ t.flag = .running ∧ ResultClear t) ∨ (t.rst = true ∧ ResultClear t) := by
  cases h with
  | quiet h => exact .inl ⟨h.result, h.resultLen, h.winLane, h.winWorker⟩
  | start m hr h => exact .inr (.inr (.inl ⟨(searchChecks_ready h).1, rfl, startSearch_resultClear _ _ s⟩))
  | cancel => exact .inl ⟨rfl, rfl, rfl, rfl⟩
  | worker w => exact (workerStep_result_cases w s).imp id .inl
  | answer w accept => exact .inl (takeVerifyRsp_resultKept w accept s)
  | reset => exact .inr (.inr (.inr ⟨rfl, assertRst_resultClear s⟩))

/-- A move that takes FLAG to Running starts a search, which clears the result (42_nonce_search.md R179). -/
theorem resultClear_of_starts {s t : State} (h : SearchMove s t) (hs : s.flag ≠ .running) (ht : t.flag = .running) :
    ResultClear t := by
  cases h with
  | quiet h => exact absurd (h.flag.symm.trans ht) hs
  | start m hr h => exact startSearch_resultClear _ _ s
  | cancel =>
    rcases cancelSearch_flag_cases s with h | ⟨hf, -⟩
    · exact absurd (h.symm.trans ht) hs
    · exact absurd hf hs
  | worker w =>
    rcases workerStep_flag_cases w s with h | ⟨hf, -⟩
    · exact absurd (h.symm.trans ht) hs
    · exact absurd hf hs
  | answer w accept => exact absurd ((takeVerifyRsp_flag w accept s).symm.trans ht) hs
  | reset => cases ht

/-- A move that raises rst is reset, which clears the result (70_reset_and_hazards.md R261). -/
theorem resultClear_of_asserts {s t : State} (h : SearchMove s t) (hs : s.rst = false) (ht : t.rst = true) :
    ResultClear t := by
  have stays {b : Bool} (hb : b = s.rst) : b ≠ true := by rw [hb, hs]; nofun
  cases h with
  | quiet h => exact absurd (h.rst ht) (stays rfl)
  | start m hr h => exact startSearch_resultClear _ _ s
  | cancel => exact absurd ht (stays (cancelSearch_rst s))
  | worker w => exact absurd ht (stays (workerStep_rst w s))
  | answer w accept => exact absurd ht (stays (takeVerifyRsp_rst w accept s))
  | reset => exact assertRst_resultClear s

end SearchMove

/-- Settles O53, from what each kind of move does to FLAG. -/
theorem flagMovesForward : Obligations.FlagMovesForward := by
  intro s t h
  obtain ⟨rest, hmove⟩ := step_searchMove h
  exact hmove.flag_cases

/-- Settles O54, from what each kind of move does to the result. -/
theorem onlyTheWinWritesResult : Obligations.OnlyTheWinWritesResult := by
  intro s t h
  obtain ⟨rest, hmove⟩ := step_searchMove h
  exact ⟨hmove.result_cases, hmove.resultClear_of_starts, hmove.resultClear_of_asserts⟩

end Sys2Proof.Machine
end

section
/-! PROOF. The step of a host write to a register of the window. -/

namespace Sys2Proof.Machine

open Sys2Proof.Safety

/-- The step of a move while rst is not held. -/
theorem step_eq_runInput {s : State} {x : Input} {rest : List Input} (hr : s.rst = false) (hi : s.inputs = x :: rest) :
    step s = runInput x (s.withInputs rest) := by
  simp [step, hi, takeInput, hr]

/-- A host write of 32 bits to CMD submits the word (10_state.md R37). -/
theorem hostWrite_cmd {s : State} (hb : s.params.tspBase % 256 = 0) (v : Reg) :
    hostWrite (s.params.tspBase + registerOffset .cmd) 4 v s = submitCommand v s := by
  rw [hostWrite, accessTarget_register _ hb]

/-- A host write of 32 bits to any other register of the map (20_memory.md R79). -/
theorem hostWrite_register {s : State} (hb : s.params.tspBase % 256 = 0) {r : Register} (hr : r ≠ .cmd) (v : Reg) :
    hostWrite (s.params.tspBase + registerOffset r) 4 v s = .next (writeRegister r v s) := by
  rw [hostWrite, accessTarget_register _ hb]
  cases r with
  | cmd => exact absurd rfl hr
  | _ => rfl

/-- The step of a host write to CMD. -/
theorem step_write_cmd {s : State} {v : Reg} {rest : List Input} (hb : s.params.tspBase % 256 = 0)
    (hr : s.rst = false) (hi : s.inputs = .memWrite (s.params.tspBase + registerOffset .cmd) 4 v :: rest) :
    step s = submitCommand v (s.withInputs rest) :=
  (step_eq_runInput hr hi).trans (hostWrite_cmd (s := s.withInputs rest) hb v)

/-- The step of a host write to a register other than CMD. -/
theorem step_write_register {s : State} {r : Register} {v : Reg} {rest : List Input}
    (hb : s.params.tspBase % 256 = 0) (hr : s.rst = false) (hc : r ≠ .cmd)
    (hi : s.inputs = .memWrite (s.params.tspBase + registerOffset r) 4 v :: rest) :
    step s = .next (writeRegister r v (s.withInputs rest)) :=
  (step_eq_runInput hr hi).trans (hostWrite_register (s := s.withInputs rest) hb hc v)

/-- A word that selects no row of the opcode map is illegal (30_encoding.md R98). -/
theorem decode_illegal {w : Reg} (h : ∀ r ∈ opcodeMap, w &&& r.mask ≠ r.pattern) :
    decode w = .error (.illegalWord w) := by
  have hnone : opcodeMap.find? (fun r => r.selects w) = none :=
    List.find?_eq_none.mpr fun r hr => by simpa [OpRow.selects] using h r hr
  simp [decode, hnone]

/-- A word that decodes runs its command (10_state.md R37). -/
theorem submitCommand_of_decode {w : Reg} {i : Instr} (h : decode w = .ok i) (s : State) :
    submitCommand w s = exec i s := by
  rw [submitCommand, decodeBytes_bytesOfWord, h]

/-- An illegal word gives ERR_OPCODE (30_encoding.md R98). -/
theorem submitCommand_of_illegal {w : Reg} (h : ∀ r ∈ opcodeMap, w &&& r.mask ≠ r.pattern) (s : State) :
    submitCommand w s = .next (s.withErr .opcode) := by
  rw [submitCommand, decodeBytes_bytesOfWord, decode_illegal h, raiseCmdError]

/-- Settles O6, by the step of a write to CMD and the two outcomes of decoding. -/
theorem stepRunsDecodedCommand : Obligations.StepRunsDecodedCommand := by
  intro s w rest hb hr hi
  have hstep := step_write_cmd hb hr hi
  exact ⟨hstep, fun i hd => hstep.trans (submitCommand_of_decode hd _),
    fun hill => hstep.trans (submitCommand_of_illegal hill _)⟩

/-- A write changes only the fields that the register names, and of a cell staging register the named half alone
(10_state.md R48; 20_memory.md R75, R79). -/
theorem writeRegister_eq_registerFieldsFrom (r : Register) (v : Reg) (u : State) :
    writeRegister r v u = registerFieldsFrom r (writeRegister r v u) u := by
  cases r with
  | cellLowLo | cellHighLo => rw [writeRegister, registerFieldsFrom, BitVec.extractLsb'_append_eq_right]
  | cellLowHi | cellHighHi => rw [writeRegister, registerFieldsFrom, BitVec.extractLsb'_append_eq_left]
  | _ => rfl

/-- A write to a read-only register changes nothing (10_state.md R50). -/
theorem writeRegister_readOnly {r : Register}
    (h : r ∈ [.caps, .absPos, .absTotal, .absBlocks, .resultInfo] ∨ ∃ k, r = .result k) (v : Reg) (u : State) :
    writeRegister r v u = u := by
  rcases h with h | ⟨k, rfl⟩
  · fin_cases h <;> rfl
  · rfl

/-- Settles O12, by the step of a register write and the frame of writeRegister. -/
theorem registerWriteFrame : Obligations.RegisterWriteFrame := by
  intro s r v rest hb hr hc hi
  exact ⟨_, step_write_register hb hr hc hi, rfl, writeRegister_eq_registerFieldsFrom r v _,
    fun h => writeRegister_readOnly h v _⟩

/-- A STATUS write clears DONE iff bit 8 is set (10_state.md R36). -/
theorem writeRegister_status (v : Reg) (u : State) :
    writeRegister .status v u = { u with done := if v.getLsbD 8 then false else u.done } := by
  rw [writeRegister]
  cases v.getLsbD 8 <;> simp

/-- Settles O13: STATUS by its write-one-to-clear bit, CTRL because irq is DONE AND IRQ_EN. -/
theorem doneAndInterruptFollowWrites : Obligations.DoneAndInterruptFollowWrites := by
  intro s v rest hb hr
  constructor
  · intro hi
    rw [step_write_register (r := .status) hb hr nofun hi, writeRegister_status]
    rfl
  · intro hi
    exact ⟨_, step_write_register (r := .ctrl) hb hr nofun hi, rfl, rfl⟩

end Sys2Proof.Machine
end

section
/-! PROOF. What the registers of the window read. -/

namespace Sys2Proof.Machine

/-! The fields of STATUS (10_state.md R31, R35; 60_exceptions.md R230). -/

theorem statusWord_flag (s : State) : (statusWord s).extractLsb' 0 3 = flagBits s.flag :=
  BitVec.extractLsb'_append_eq_right

theorem statusWord_reserved (s : State) : (statusWord s).extractLsb' 9 7 = 0#7 := by
  simp (disch := decide) only [statusWord, BitVec.extractLsb'_append_eq_of_le]
  exact BitVec.extractLsb'_append_eq_right

theorem statusWord_err (s : State) : (statusWord s).extractLsb' 16 8 = errBits s.err := by
  simp (disch := decide) only [statusWord, BitVec.extractLsb'_append_eq_of_le]
  exact BitVec.extractLsb'_append_eq_right

theorem statusWord_active (s : State) : (statusWord s).extractLsb' 24 8 = BitVec.ofNat 8 s.active := by
  simp (disch := decide) only [statusWord, BitVec.extractLsb'_append_eq_of_le]
  exact BitVec.extractLsb'_eq_self

theorem statusWord_bits (s : State) :
    (statusWord s).getLsbD 3 = s.busy ∧ (statusWord s).getLsbD 4 = s.midValid ∧
    (statusWord s).getLsbD 5 = s.ovf ∧ (statusWord s).getLsbD 6 = modeBit s.mode ∧
    (statusWord s).getLsbD 7 = false ∧ (statusWord s).getLsbD 8 = s.done := by
  simp only [statusWord, BitVec.getLsbD_append]
  simp

theorem modeBit_eq (m : Mode) : modeBit m = decide (m = .checksum) := by cases m <;> rfl

/-! The fields of RESULT_INFO (10_state.md R47) and CAPS (10_state.md R33). -/

theorem resultInfoWord_fields (s : State) :
    (resultInfoWord s).extractLsb' 0 6 = BitVec.ofNat 6 s.winLane ∧ (resultInfoWord s).extractLsb' 6 2 = 0#2 ∧
    (resultInfoWord s).extractLsb' 8 8 = BitVec.ofNat 8 s.winWorker ∧
    (resultInfoWord s).extractLsb' 16 8 = BitVec.ofNat 8 s.resultLen ∧
    (resultInfoWord s).extractLsb' 24 8 = 0#8 := by
  simp (disch := decide) only [resultInfoWord, BitVec.extractLsb'_append_eq_of_le]
  exact ⟨BitVec.extractLsb'_append_eq_right, BitVec.extractLsb'_append_eq_right, BitVec.extractLsb'_append_eq_right,
    BitVec.extractLsb'_append_eq_right, BitVec.extractLsb'_eq_self⟩

theorem capsWord_fields (p : Params) :
    (capsWord p).extractLsb' 0 8 = BitVec.ofNat 8 p.nwMax ∧ (capsWord p).extractLsb' 8 8 = 0#8 ∧
    (capsWord p).extractLsb' 16 16 = BitVec.ofNat 16 p.transactionLength := by
  simp (disch := decide) only [capsWord, BitVec.extractLsb'_append_eq_of_le]
  exact ⟨BitVec.extractLsb'_append_eq_right, BitVec.extractLsb'_append_eq_right, BitVec.extractLsb'_eq_self⟩

/-- A number that fits its field stands in it. -/
theorem toNat_of_field {w n : Nat} {x : BitVec w} (h : x = BitVec.ofNat w n) (hn : n < 2 ^ w) : x.toNat = n := by
  rw [h, BitVec.toNat_ofNat, Nat.mod_eq_of_lt hn]

/-- Settles O9, from the fields of the three words. -/
theorem statusAndInfoWordFields : Obligations.StatusAndInfoWordFields := by
  intro s hactive hlane hworker hlen hpos hmax htx
  obtain ⟨hbusy, hvalid, hovf, hmode, hzero, hdone⟩ := statusWord_bits s
  obtain ⟨ilane, ires, iworker, ilen, itop⟩ := resultInfoWord_fields s
  obtain ⟨cmax, cres, ctx⟩ := capsWord_fields s.params
  refine ⟨(statusWord_flag s).trans ?_, hbusy, hvalid, hovf, hmode.trans (modeBit_eq _), hzero, hdone,
    statusWord_reserved s, (statusWord_err s).trans ?_, toNat_of_field (statusWord_active s) hactive,
    toNat_of_field ilane hlane, ires, toNat_of_field iworker hworker, toNat_of_field ilen hlen, itop,
    toNat_of_field cmax hmax, cres, toNat_of_field ctx htx, ?_, rfl, rfl, rfl⟩
  · cases s.flag <;> rfl
  · cases s.err <;> rfl
  · simp only [readRegister, BitVec.toNat_setWidth, BitVec.toNat_ofNat]
    omega

/-! What a written register reads back (10_state.md R34, R38 to R43, R48). -/

/-- A field above the low bits joins them. -/
theorem extractLsb'_append_setWidth (v : Reg) (m n : Nat) :
    v.extractLsb' n m ++ v.setWidth n = v.setWidth (m + n) := by
  apply BitVec.eq_of_getLsbD_eq
  intro i hi
  simp only [BitVec.getLsbD_append, BitVec.getLsbD_extractLsb', BitVec.getLsbD_setWidth]
  by_cases h : i < n
  · simp [h, hi]
  · simp [h, hi, show i - n < m by omega, Nat.add_sub_cancel' (Nat.not_lt.mp h)]

/-- CTRL's bits with the reserved bits 0 (10_state.md R34). -/
theorem ctrl_masked (v : Reg) :
    0#30 ++ BitVec.ofBool (v.getLsbD 1) ++ BitVec.ofBool (v.getLsbD 0) = v &&& 0x00000003#32 := by
  have h0 : BitVec.ofBool (v.getLsbD 0) = v.setWidth 1 := by simp [BitVec.setWidth_one]
  have h1 : BitVec.ofBool (v.getLsbD 1) = v.extractLsb' 1 1 := by
    ext i hi; simp [Nat.lt_one_iff.mp hi]
  rw [BitVec.append_assoc, h0, h1, extractLsb'_append_setWidth]
  exact (BitVec.and_setWidth_allOnes 30 2 v).symm

/-- One byte field with the reserved bits 0 (10_state.md R39, R40). -/
theorem byte_masked (v : Reg) : (v.extractLsb' 0 8).setWidth 32 = v &&& 0x000000FF#32 := by
  rw [BitVec.setWidth_eq_append (by decide), ← BitVec.setWidth_eq_extractLsb' (by decide)]
  exact (BitVec.and_setWidth_allOnes 24 8 v).symm

/-- Two byte fields with the reserved bits 0 (10_state.md R41, R42). -/
theorem pair_masked (v : Reg) : 0#16 ++ v.extractLsb' 8 8 ++ v.extractLsb' 0 8 = v &&& 0x0000FFFF#32 := by
  rw [BitVec.append_assoc, ← BitVec.setWidth_eq_extractLsb' (by decide), extractLsb'_append_setWidth]
  exact (BitVec.and_setWidth_allOnes 16 16 v).symm

/-- Three byte fields with the reserved bits 0 (10_state.md R43). -/
theorem triple_masked (v : Reg) :
    0#8 ++ v.extractLsb' 16 8 ++ v.extractLsb' 8 8 ++ v.extractLsb' 0 8 = v &&& 0x00FFFFFF#32 := by
  rw [BitVec.append_assoc, ← BitVec.setWidth_eq_extractLsb' (by decide), extractLsb'_append_setWidth,
    BitVec.append_assoc, extractLsb'_append_setWidth]
  exact (BitVec.and_setWidth_allOnes 8 24 v).symm

/-- Settles O10: each field is stored from its bits, and the fields side by side are the written word. -/
theorem writtenRegisterReadsBack : Obligations.WrittenRegisterReadsBack := by
  intro s v
  have low (a : Reg) : (a ++ v).extractLsb' 0 32 = v := BitVec.extractLsb'_append_eq_right
  have high (a : Reg) : (v ++ a).extractLsb' 32 32 = v := BitVec.extractLsb'_append_eq_left
  exact ⟨ctrl_masked v, rfl, byte_masked v, byte_masked v, pair_masked v, pair_masked v, triple_masked v,
    low _, BitVec.extractLsb'_append_eq_left, high _, BitVec.extractLsb'_append_eq_right,
    low _, BitVec.extractLsb'_append_eq_left, high _, BitVec.extractLsb'_append_eq_right,
    rfl, rfl, rfl, rfl, rfl, rfl, rfl, rfl, rfl, rfl, rfl, rfl, low _, high _, low _, high _⟩

/-! RESULTk (10_state.md R49; 20_memory.md R77). -/

/-- One step of the packing: the code stands in the lowest slot, the others move up by one. -/
theorem slot_shiftLeft_or (acc : Reg) (c : Code) :
    slot ((acc <<< 2) ||| c.setWidth 32) 0 = c ∧
    ∀ j, j < 15 → slot ((acc <<< 2) ||| c.setWidth 32) (j + 1) = slot acc j := by
  unfold slot
  constructor
  · ext i hi
    simp [show i < 32 by omega, show i ≤ 1 by omega]
  · intro j hj
    ext i hi
    simp [show 2 * (j + 1) + i < 32 by omega, show ¬ 2 * (j + 1) + i ≤ 1 by omega,
      show 2 * (j + 1) + i - 2 = 2 * j + i by omega, BitVec.getLsbD_of_ge c (2 * (j + 1) + i) (by omega),
      BitVec.getLsbD_eq_getElem (show 2 * j + i < 32 by omega)]

/-- The packing of a register: code j of at most 16 stands in slot j. -/
theorem slot_foldr (l : List Code) (hl : l.length ≤ 16) (j : Nat) (hj : j < l.length) :
    slot (l.foldr (fun c (acc : Reg) => (acc <<< 2) ||| c.setWidth 32) 0#32) j = l[j] := by
  induction l generalizing j with
  | nil => cases hj
  | cons c l ih =>
    rw [List.length_cons] at hl hj
    rw [List.foldr_cons]
    cases j with
    | zero => exact (slot_shiftLeft_or _ c).1
    | succ j => exact ((slot_shiftLeft_or _ c).2 j (by omega)).trans (ih (by omega) j (by omega))

/-- Settles O11: RESULTk packs the codes of its 16 slots. -/
theorem resultRegisterPacksSlots : Obligations.ResultRegisterPacksSlots := by
  intro s k j hj
  have h := slot_foldr ((List.range 16).map fun j => s.result.getD (16 * k.val + j) 0b00#2) (by simp) j (by simpa)
  rw [List.foldr_map, List.getElem_map, List.getElem_range] at h
  exact h

/-! The reset values (70_reset_and_hazards.md R262). -/

/-- A clear result packs to 0. -/
theorem packResult_clear (k : Nat) : packResult (Vector.replicate 256 0b00#2) k = 0#32 := by
  refine List.foldr_fixed' (fun j => ?_) _
  have h : (Vector.replicate 256 0b00#2).getD (16 * k + j) 0b00#2 = 0b00#2 := by
    by_cases hi : 16 * k + j < 256 <;> simp [Vector.getD, hi]
  rw [h]; rfl

theorem readRegister_resetOf (p : Params) {r : Register} (h : r ≠ .caps) :
    readRegister (State.resetOf p) r = 0#32 := by
  cases r with
  | caps => exact absurd rfl h
  | result k => exact packResult_clear k.val
  | ctrl | part | iter | ckcfg | cellLowHi | cellHighHi | status | resultInfo =>
    simp [readRegister, State.resetOf, statusWord, State.busy, flagBits, errBits, modeBit, resultInfoWord]
  | _ => rfl

/-- Settles O58, from the reset values and the fields of CAPS. -/
theorem resetReadsZero : Obligations.ResetReadsZero := by
  refine ⟨fun p r h => readRegister_resetOf p h, fun p hp => ?_, fun p hmax htx => ?_⟩
  · obtain ⟨cmax, cres, ctx⟩ := capsWord_fields p
    obtain ⟨-, hmax, htx⟩ := Params.wf_bounds hp
    exact ⟨toNat_of_field cmax (Nat.lt_succ_of_le hmax), cres, toNat_of_field ctx (Nat.lt_succ_of_le htx)⟩
  · show capsWord p = _
    rw [capsWord, hmax, htx]
    rfl

end Sys2Proof.Machine
end

section
/-! PROOF. Host accesses to the window: the mapped offsets, the reads and writes that complete, and BusError. -/

namespace Sys2Proof.Machine

open Sys2Proof.Safety

/-! The mapped offsets (10_state.md R32). -/

theorem registerOffset_mapped (r : Register) : Mapped (registerOffset r) := by
  refine ⟨registerOffset_mod r, ?_⟩
  cases r with
  | result k => simp only [registerOffset]; omega
  | _ => decide

/-- Below RESULT0 the map is one run of 18 registers, from CAPS to the last half of CELL_H. -/
theorem exists_registerOffset_low : ∀ k < 18, ∃ r ∈ registerMap, registerOffset r = 4 * k := by decide

theorem exists_registerOffset {o : Nat} (h : Mapped o) : ∃ r, registerOffset r = o := by
  obtain ⟨haligned, hlow | ⟨hfrom, hto⟩⟩ := h
  · obtain ⟨r, -, hr⟩ := exists_registerOffset_low (o / 4) (by omega)
    exact ⟨r, by omega⟩
  · exact ⟨.result ⟨(o - 0x80) / 4, by omega⟩, by simp only [registerOffset]; omega⟩

theorem registerAt_eq_none {o : Nat} (h : ¬ Mapped o) : registerAt o = none :=
  Option.eq_none_iff_forall_ne_some.mpr fun r hr => h (registerAt_some hr ▸ registerOffset_mapped r)

/-- An access to the window that is narrow, unaligned or unmapped ends in BusError (20_memory.md R73, R74). -/
theorem accessTarget_busError {base o bytes : Nat} (hb : base % 256 = 0) (ho : o < 256)
    (h : ¬ (bytes = 4 ∧ Mapped o)) : accessTarget base (base + o) bytes = .busError o bytes := by
  have hwindow : windowOffset base (base + o) = some o := by simp [windowOffset, ho]
  simp only [accessTarget, hwindow]
  split
  · rename_i hshape
    have haligned : o % 4 = 0 := by omega
    rw [registerAt_eq_none fun hm => h ⟨hshape.1, hm⟩]
  · rfl

/-! Reads. -/

/-- A read of a register of the map (20_memory.md R78). -/
theorem hostRead_register {s : State} (hb : s.params.tspBase % 256 = 0) (r : Register) :
    hostRead (s.params.tspBase + registerOffset r) 4 s = .next (s.withReadData (readRegister s r)) := by
  rw [hostRead, accessTarget_register _ hb]

theorem hostRead_busError {s : State} {o bytes : Nat} (hb : s.params.tspBase % 256 = 0) (ho : o < 256)
    (h : ¬ (bytes = 4 ∧ Mapped o)) : hostRead (s.params.tspBase + o) bytes s = .fault (.busError o bytes) := by
  rw [hostRead, accessTarget_busError hb ho h]

/-- No register shows the coming moves. -/
@[simp] theorem readRegister_withInputs (s : State) (l : List Input) (r : Register) :
    readRegister (s.withInputs l) r = readRegister s r := by
  cases r <;> rfl

/-- Settles O8, by the step of a register read. -/
theorem readChangesOnlyReadData : Obligations.ReadChangesOnlyReadData := by
  intro s r rest hb hr hi
  calc step s
      = hostRead (s.params.tspBase + registerOffset r) 4 (s.withInputs rest) := step_eq_runInput hr hi
    _ = .next ((s.withInputs rest).withReadData (readRegister (s.withInputs rest) r)) :=
        hostRead_register (s := s.withInputs rest) hb r
    _ = .next { s with readData := readRegister s r, inputs := rest } := by
        rw [readRegister_withInputs]; rfl

/-! Writes: every command answers a next state, so every write to a register completes (60_exceptions.md R231). -/

theorem runCommand_completes (cs : List (Bool × ErrCode)) (f : State → State) (s : State) :
    ∃ t, runCommand cs f s = .next t := by
  rcases runCommand_cases cs f s with ⟨e, -, h⟩ | ⟨-, h⟩
  · exact ⟨_, h⟩
  · exact ⟨_, h⟩

theorem exec_completes (i : Instr) (s : State) : ∃ t, exec i s = .next t := by
  cases i with
  | nop => exact runCommand_completes [] id s
  | cancel => exact runCommand_completes [] cancelSearch s
  | _ => exact runCommand_completes _ _ s

theorem submitCommand_completes (w : Reg) (s : State) : ∃ t, submitCommand w s = .next t := by
  unfold submitCommand
  split
  · exact exec_completes _ s
  · exact ⟨_, rfl⟩

theorem hostWrite_completes {s : State} (hb : s.params.tspBase % 256 = 0) (r : Register) (v : Reg) :
    ∃ t, hostWrite (s.params.tspBase + registerOffset r) 4 v s = .next t := by
  by_cases hc : r = .cmd
  · rw [hc, hostWrite_cmd hb]
    exact submitCommand_completes v s
  · exact ⟨_, hostWrite_register hb hc v⟩

theorem hostWrite_busError {s : State} {o bytes : Nat} (hb : s.params.tspBase % 256 = 0) (ho : o < 256)
    (h : ¬ (bytes = 4 ∧ Mapped o)) (v : Reg) :
    hostWrite (s.params.tspBase + o) bytes v s = .fault (.busError o bytes) := by
  rw [hostWrite, accessTarget_busError hb ho h]

/-- Settles O7: a mapped offset is some register's, whose read and write complete; every other access ends in
BusError. -/
theorem busErrorExactlyOnBadAccess : Obligations.BusErrorExactlyOnBadAccess := by
  intro s o bytes v rest hb hr ho hi
  have hb' : (s.withInputs rest).params.tspBase % 256 = 0 := hb
  split_ifs with h
  · obtain ⟨rfl, hm⟩ := h
    obtain ⟨r, rfl⟩ := exists_registerOffset hm
    rcases hi with hi | hi <;> rw [step_eq_runInput hr hi]
    · exact ⟨_, hostRead_register hb' r⟩
    · exact hostWrite_completes hb' r v
  · rcases hi with hi | hi <;> rw [step_eq_runInput hr hi]
    · exact hostRead_busError hb' ho h
    · exact hostWrite_busError hb' ho h v

end Sys2Proof.Machine
end

section
/-! PROOF. MID while a search runs: each kind of move leaves it alone, but for reset. -/

namespace Sys2Proof.Machine

/-- A command whose first check is BUSY is rejected while a worker runs (60_exceptions.md R233, R236). -/
theorem runCommand_busy {s : State} (h : 0 < s.active) (cs : List (Bool × ErrCode)) (f : State → State) :
    runCommand ((s.busy, .busy) :: cs) f s = .next (s.withErr .busy) :=
  runCommand_rejected f s (by simp [State.busy, h, firstError])

/-- While a search runs every command but NOP and CANCEL gives ERR_BUSY (60_exceptions.md R233). -/
theorem exec_busy {s : State} (h : 0 < s.active) {i : Instr} (hnop : i ≠ .nop) (hcancel : i ≠ .cancel) :
    exec i s = .next (s.withErr .busy) := by
  cases i with
  | nop => exact absurd rfl hnop
  | cancel => exact absurd rfl hcancel
  | _ => exact runCommand_busy h _ _

theorem exec_mid_of_busy {i : Instr} {s t : State} (hs : 0 < s.active) (h : exec i s = .next t) : t.mid = s.mid := by
  by_cases hnop : i = .nop
  · subst hnop; cases h; rfl
  by_cases hcancel : i = .cancel
  · subst hcancel; cases h; rfl
  rw [exec_busy hs hnop hcancel] at h
  cases h; rfl

theorem submitCommand_mid_of_busy {w : Reg} {s t : State} (hs : 0 < s.active) (h : submitCommand w s = .next t) :
    t.mid = s.mid := by
  unfold submitCommand at h
  split at h
  · exact exec_mid_of_busy hs h
  · cases h; rfl

/-- No register write stores to MID: only commands do. -/
@[simp] theorem writeRegister_mid (r : Register) (v : Reg) (s : State) : (writeRegister r v s).mid = s.mid := by
  cases r <;> rfl

theorem hostRead_mid {addr bytes : Nat} {s t : State} (h : hostRead addr bytes s = .next t) : t.mid = s.mid := by
  unfold hostRead at h
  split at h <;> cases h
  rfl

theorem hostWrite_mid_of_busy {addr bytes : Nat} {v : Reg} {s t : State} (hs : 0 < s.active)
    (h : hostWrite addr bytes v s = .next t) : t.mid = s.mid := by
  unfold hostWrite at h
  split at h
  · exact submitCommand_mid_of_busy hs h
  · cases h; exact writeRegister_mid _ v s
  · cases h
  · cases h

/-- A worker's step writes its own buffers, never MID (20_memory.md R84, R89). -/
@[simp] theorem workerStep_mid (w : Nat) (s : State) : (workerStep w s).mid = s.mid := by
  rcases workerStep_cases w s with h | ⟨W, h⟩ | ⟨-, -, -, h⟩ | ⟨-, -, h⟩ | ⟨-, -, h⟩ <;> simp [h]

@[simp] theorem takeVerifyRsp_mid (w : Nat) (accept : Bool) (s : State) :
    (takeVerifyRsp w accept s).mid = s.mid := by
  rcases takeVerifyRsp_cases w accept s with h | ⟨-, -, h⟩ <;> simp [h]

/-- The rst input changes MID only by reset, which leaves rst high (70_reset_and_hazards.md R261). -/
theorem driveRst_mid_or_rst (level : Bool) (s : State) :
    (driveRst level s).mid = s.mid ∨ (driveRst level s).rst = true := by
  cases level
  · exact .inl rfl
  · exact .inr rfl

theorem runInput_mid_or_rst_of_busy {x : Input} {s t : State} (hs : 0 < s.active) (h : runInput x s = .next t) :
    t.mid = s.mid ∨ t.rst = true := by
  cases x with
  | memRead addr bytes => exact .inl (hostRead_mid h)
  | memWrite addr bytes v => exact .inl (hostWrite_mid_of_busy hs h)
  | worker w => cases h; exact .inl (workerStep_mid w s)
  | verifyRsp w accept => cases h; exact .inl (takeVerifyRsp_mid w accept s)
  | rst level => cases h; exact driveRst_mid_or_rst level s

theorem runInputHeld_mid_or_rst (x : Input) (s : State) :
    (runInputHeld x s).mid = s.mid ∨ (runInputHeld x s).rst = true := by
  cases x with
  | rst level => exact driveRst_mid_or_rst level s
  | _ => exact .inl rfl

/-- Settles O52: of the moves only a command and reset write MID, and a command that would is rejected with
ERR_BUSY. -/
theorem midIsConstantWhileBusy : Obligations.MidIsConstantWhileBusy := by
  intro s t hs h
  rcases step_cases s with ⟨-, hstep⟩ | ⟨x, rest, -, hstep⟩ <;> rw [hstep] at h
  · cases h; exact .inl rfl
  · unfold takeInput at h
    split at h
    · cases h; exact runInputHeld_mid_or_rst x (s.withInputs rest)
    · exact runInput_mid_or_rst_of_busy (s := s.withInputs rest) hs h

end Sys2Proof.Machine
end

section
/-! PROOF. The encoding: the words of each command, the row of the opcode map that a word selects, and that decoding
and encoding undo each other. -/

namespace Sys2Proof

/-! ### Parts of a word side by side -/

/-- Every bit vector is its high part beside its low part. -/
theorem exists_append {m n : Nat} (x : BitVec (m + n)) : ∃ (a : BitVec m) (b : BitVec n), x = a ++ b :=
  ⟨_, _, BitVec.extractLsb'_append_extractLsb'.symm⟩

theorem append_inj {m n : Nat} {a c : BitVec m} {b d : BitVec n} : a ++ b = c ++ d ↔ a = c ∧ b = d := by
  constructor
  · intro h
    constructor
    · simpa only [BitVec.extractLsb'_append_eq_left] using congrArg (BitVec.extractLsb' n m) h
    · simpa only [BitVec.extractLsb'_append_eq_right] using congrArg (BitVec.extractLsb' 0 n) h
  · rintro ⟨rfl, rfl⟩; rfl

/-- Every bit vector is a number below the power of 2 of its width. -/
theorem exists_eq_ofNat {n : Nat} (x : BitVec n) : ∃ k < 2 ^ n, x = BitVec.ofNat n k :=
  ⟨x.toNat, x.isLt, by simp⟩

theorem exists_eq_ofBool (x : BitVec 1) : ∃ b, x = BitVec.ofBool b := by
  revert x; decide

/-! ### The formats with fields: a word with OPCODE c and reserved bits 0 is c beside its fields

The mask is 1 in the OPCODE and in the reserved bits (30_encoding.md R96, R97). -/

/-- FO and FI: one field at the low end. -/
theorem mask_iff_oneField {m n : Nat} (c : BitVec 8) {w : BitVec (8 + (m + n))} :
    w &&& (BitVec.allOnes 8 ++ (BitVec.allOnes m ++ 0#n)) = c ++ (0#m ++ 0#n) ↔
      ∃ k < 2 ^ n, w = c ++ (0#m ++ BitVec.ofNat n k) := by
  constructor
  · obtain ⟨a, x, rfl⟩ := exists_append w
    obtain ⟨z, f, rfl⟩ := exists_append x
    obtain ⟨k, hk, rfl⟩ := exists_eq_ofNat f
    simp only [BitVec.and_append, append_inj, BitVec.and_allOnes]
    rintro ⟨rfl, rfl, -⟩
    exact ⟨k, hk, rfl, rfl, rfl⟩
  · rintro ⟨k, -, rfl⟩
    simp only [BitVec.and_append, BitVec.and_allOnes, BitVec.and_zero]

/-- FR: two fields side by side at the low end. -/
theorem mask_iff_twoFields {m n l : Nat} (c : BitVec 8) {w : BitVec (8 + (m + n + l))} :
    w &&& (BitVec.allOnes 8 ++ (BitVec.allOnes m ++ 0#n ++ 0#l)) = c ++ (0#m ++ 0#n ++ 0#l) ↔
      ∃ j < 2 ^ n, ∃ k < 2 ^ l, w = c ++ (0#m ++ BitVec.ofNat n j ++ BitVec.ofNat l k) := by
  constructor
  · obtain ⟨a, x, rfl⟩ := exists_append w
    obtain ⟨y, g, rfl⟩ := exists_append x
    obtain ⟨z, f, rfl⟩ := exists_append y
    obtain ⟨j, hj, rfl⟩ := exists_eq_ofNat f
    obtain ⟨k, hk, rfl⟩ := exists_eq_ofNat g
    simp only [BitVec.and_append, append_inj, BitVec.and_allOnes]
    rintro ⟨rfl, ⟨rfl, -⟩, -⟩
    exact ⟨j, hj, k, hk, rfl, ⟨rfl, rfl⟩, rfl⟩
  · rintro ⟨j, -, k, -, rfl⟩
    simp only [BitVec.and_append, BitVec.and_allOnes, BitVec.and_zero]

/-- FT: a flag with reserved bits above and below it, over a field at the low end. -/
theorem mask_iff_flagAndField {m k n : Nat} (c : BitVec 8) {w : BitVec (8 + (m + 1 + k + n))} :
    w &&& (BitVec.allOnes 8 ++ (BitVec.allOnes m ++ 0#1 ++ BitVec.allOnes k ++ 0#n)) =
        c ++ (0#m ++ 0#1 ++ 0#k ++ 0#n) ↔
      ∃ b, ∃ j < 2 ^ n, w = c ++ (0#m ++ BitVec.ofBool b ++ 0#k ++ BitVec.ofNat n j) := by
  constructor
  · obtain ⟨a, x, rfl⟩ := exists_append w
    obtain ⟨y, f, rfl⟩ := exists_append x
    obtain ⟨u, v, rfl⟩ := exists_append y
    obtain ⟨z, g, rfl⟩ := exists_append u
    obtain ⟨b, rfl⟩ := exists_eq_ofBool g
    obtain ⟨j, hj, rfl⟩ := exists_eq_ofNat f
    simp only [BitVec.and_append, append_inj, BitVec.and_allOnes]
    rintro ⟨rfl, ⟨⟨rfl, -⟩, rfl⟩, -⟩
    exact ⟨b, j, hj, rfl, ⟨⟨rfl, rfl⟩, rfl⟩, rfl⟩
  · rintro ⟨b, j, -, rfl⟩
    simp only [BitVec.and_append, BitVec.and_allOnes, BitVec.and_zero]

/-! ### The rows of the opcode map (30_encoding.md R97) -/

/-- The mnemonic of a command. -/
def Instr.op : Instr → Op
  | .nop => .nop
  | .absorbInit => .absorbInit
  | .absorbTrits _ _ => .absorbTrits
  | .padRate => .padRate
  | .permute => .permute
  | .lanePattern _ => .lanePattern
  | .increment _ _ => .increment
  | .readCell _ => .readCell
  | .writeCell _ => .writeCell
  | .searchNonce => .searchNonce
  | .searchChecksum => .searchChecksum
  | .cancel => .cancel

/-- The operands of a row make a command of the row. -/
@[simp] theorem op_operands (op : Op) (w : Reg) : (operands op w).op = op := by cases op <;> rfl

/-- The row of a mnemonic. -/
def Op.row (op : Op) : OpRow := (opcodeMap.find? fun r => r.op = op).getD ⟨op, 0#32, 0#32⟩

@[simp] theorem Op.row_op (op : Op) : op.row.op = op := by cases op <;> rfl

theorem Op.row_mem (op : Op) : op.row ∈ opcodeMap := by cases op <;> decide

/-- The map has one row for each mnemonic. -/
theorem row_of_mem : ∀ r ∈ opcodeMap, r.op.row = r := by decide

/-- Every mask holds the whole OPCODE. -/
theorem opcode_mask : ∀ r ∈ opcodeMap, r.mask.extractLsb' 24 8 = BitVec.allOnes 8 := by decide

/-- No two rows have one OPCODE. -/
theorem eq_of_opcode_eq :
    ∀ r ∈ opcodeMap, ∀ q ∈ opcodeMap, r.pattern.extractLsb' 24 8 = q.pattern.extractLsb' 24 8 → r = q := by
  decide

/-- The OPCODEs of the map are 0x00..0x08 and 0x10..0x12. -/
theorem opcode_listed : ∀ r ∈ opcodeMap, (r.pattern.extractLsb' 24 8).toNat ≤ 0x08 ∨
    0x10 ≤ (r.pattern.extractLsb' 24 8).toNat ∧ (r.pattern.extractLsb' 24 8).toNat ≤ 0x12 := by decide

/-- No pattern holds an operand bit. -/
theorem pattern_operandBits : ∀ r ∈ opcodeMap, r.pattern &&& 0x00FFFFFF#32 = 0#32 := by decide

/-- A word that selects a row has its OPCODE. -/
theorem opcode_of_selects {r : OpRow} (hr : r ∈ opcodeMap) {w : Reg} (h : w &&& r.mask = r.pattern) :
    w.extractLsb' 24 8 = r.pattern.extractLsb' 24 8 := by
  rw [← h, BitVec.extractLsb'_and, opcode_mask r hr, BitVec.and_allOnes]

/-- The rows do not overlap. -/
theorem eq_of_selects {r q : OpRow} (hr : r ∈ opcodeMap) (hq : q ∈ opcodeMap) {w : Reg}
    (hwr : w &&& r.mask = r.pattern) (hwq : w &&& q.mask = q.pattern) : r = q :=
  eq_of_opcode_eq r hr q hq ((opcode_of_selects hr hwr).symm.trans (opcode_of_selects hq hwq))

/-! ### What decodes -/

/-- A word that selects a row decodes to the row's command. -/
theorem decode_of_selects {r : OpRow} (hr : r ∈ opcodeMap) {w : Reg} (h : w &&& r.mask = r.pattern) :
    decode w = .ok (operands r.op w) := by
  cases hf : opcodeMap.find? (fun q => q.selects w) with
  | none => exact absurd h (by simpa [OpRow.selects] using List.find?_eq_none.mp hf r hr)
  | some q =>
    have hq : w &&& q.mask = q.pattern := by simpa [OpRow.selects] using List.find?_some hf
    have hqr : q = r := eq_of_selects (List.mem_of_find?_eq_some hf) hr hq h
    simp [decode, hf, hqr]

/-- A word decodes to a command iff it selects the command's row and holds its operands. -/
theorem decode_eq_ok_iff {w : Reg} {i : Instr} :
    decode w = .ok i ↔ w &&& i.op.row.mask = i.op.row.pattern ∧ operands i.op w = i := by
  constructor
  · intro h
    by_cases hill : ∀ r ∈ opcodeMap, w &&& r.mask ≠ r.pattern
    · rw [Machine.decode_illegal hill] at h
      cases h
    · push Not at hill
      obtain ⟨r, hr, hw⟩ := hill
      rw [decode_of_selects hr hw] at h
      cases h
      rw [op_operands, row_of_mem r hr]
      exact ⟨hw, rfl⟩
  · rintro ⟨hw, hi⟩
    rw [decode_of_selects i.op.row_mem hw, Op.row_op, hi]

/-! ### The words that select a row are those of its commands (30_encoding.md R100) -/

/-- F0: with every bit in the mask the pattern is the only word. -/
theorem selects_exactly_iff {w p : Reg} : w &&& 0xFFFFFFFF#32 = p ↔ w = p := by
  rw [show 0xFFFFFFFF#32 = BitVec.allOnes 32 from rfl, BitVec.and_allOnes]

theorem selects_absorbTrits_iff {w : Reg} :
    w &&& Op.absorbTrits.row.mask = Op.absorbTrits.row.pattern ↔
      ∃ auto, ∃ n < 2 ^ 5, w = encode (.absorbTrits n auto) :=
  mask_iff_flagAndField (m := 15) (k := 3) (n := 5) 0x02#8

theorem selects_lanePattern_iff {w : Reg} :
    w &&& Op.lanePattern.row.mask = Op.lanePattern.row.pattern ↔ ∃ off < 2 ^ 8, w = encode (.lanePattern off) :=
  mask_iff_oneField (m := 16) (n := 8) 0x05#8

theorem selects_increment_iff {w : Reg} :
    w &&& Op.increment.row.mask = Op.increment.row.pattern ↔
      ∃ hi < 2 ^ 10, ∃ lo < 2 ^ 10, w = encode (.increment lo hi) :=
  mask_iff_twoFields (m := 4) (n := 10) (l := 10) 0x06#8

theorem selects_readCell_iff {w : Reg} :
    w &&& Op.readCell.row.mask = Op.readCell.row.pattern ↔ ∃ idx < 2 ^ 10, w = encode (.readCell idx) :=
  mask_iff_oneField (m := 14) (n := 10) 0x07#8

theorem selects_writeCell_iff {w : Reg} :
    w &&& Op.writeCell.row.mask = Op.writeCell.row.pattern ↔ ∃ idx < 2 ^ 10, w = encode (.writeCell idx) :=
  mask_iff_oneField (m := 14) (n := 10) 0x08#8

/-- The word of a well-formed command selects the command's row. -/
theorem encode_selects {i : Instr} (hi : i.wf = true) : encode i &&& i.op.row.mask = i.op.row.pattern := by
  cases i with
  | absorbTrits n auto => exact selects_absorbTrits_iff.mpr ⟨auto, n, of_decide_eq_true hi, rfl⟩
  | lanePattern off => exact selects_lanePattern_iff.mpr ⟨off, of_decide_eq_true hi, rfl⟩
  | increment lo hi' =>
    obtain ⟨hlo, hhi⟩ : lo < 1024 ∧ hi' < 1024 := by simpa [Instr.wf] using hi
    exact selects_increment_iff.mpr ⟨hi', hhi, lo, hlo, rfl⟩
  | readCell idx => exact selects_readCell_iff.mpr ⟨idx, of_decide_eq_true hi, rfl⟩
  | writeCell idx => exact selects_writeCell_iff.mpr ⟨idx, of_decide_eq_true hi, rfl⟩
  | nop | absorbInit | padRate | permute | searchNonce | searchChecksum | cancel => rfl

/-! ### The fields read back from a word -/

/-- The field at the low end. -/
theorem toNat_extract_low {l m n k : Nat} (c : BitVec l) (z : BitVec m) (hk : k < 2 ^ n) :
    ((c ++ (z ++ BitVec.ofNat n k)).extractLsb' 0 n).toNat = k := by
  rw [BitVec.extractLsb'_append_eq_of_add_le (by omega), BitVec.extractLsb'_append_eq_right,
    BitVec.toNat_ofNat, Nat.mod_eq_of_lt hk]

/-- The field above the low one. -/
theorem toNat_extract_above {l m n p j : Nat} (c : BitVec l) (z : BitVec m) (y : BitVec p) (hj : j < 2 ^ n) :
    ((c ++ (z ++ BitVec.ofNat n j ++ y)).extractLsb' p n).toNat = j := by
  rw [BitVec.extractLsb'_append_eq_of_add_le (by omega), BitVec.extractLsb'_append_eq_of_le le_rfl, Nat.sub_self,
    BitVec.extractLsb'_append_eq_right, BitVec.toNat_ofNat, Nat.mod_eq_of_lt hj]

/-- The flag above the reserved bits of its format. -/
theorem getLsbD_flag {l m k n : Nat} (c : BitVec l) (z : BitVec m) (b : Bool) (q : BitVec k) (x : BitVec n) :
    (c ++ (z ++ BitVec.ofBool b ++ q ++ x)).getLsbD (n + k) = b := by
  simp [BitVec.getLsbD_append, -BitVec.getLsbD_eq_getElem, show n + k < m + 1 + k + n by omega]

/-- The operands of a well-formed command's word are the command's. -/
theorem operands_encode {i : Instr} (hi : i.wf = true) : operands i.op (encode i) = i := by
  cases i with
  | absorbTrits n auto =>
    exact congrArg₂ Instr.absorbTrits (toNat_extract_low 0x02#8 _ (of_decide_eq_true hi))
      (getLsbD_flag 0x02#8 0#15 auto 0#3 (BitVec.ofNat 5 n))
  | lanePattern off => exact congrArg Instr.lanePattern (toNat_extract_low 0x05#8 0#16 (of_decide_eq_true hi))
  | increment lo hi' =>
    obtain ⟨hlo, hhi⟩ : lo < 1024 ∧ hi' < 1024 := by simpa [Instr.wf] using hi
    exact congrArg₂ Instr.increment (toNat_extract_low 0x06#8 _ hlo) (toNat_extract_above 0x06#8 0#4 _ hhi)
  | readCell idx => exact congrArg Instr.readCell (toNat_extract_low 0x07#8 0#14 (of_decide_eq_true hi))
  | writeCell idx => exact congrArg Instr.writeCell (toNat_extract_low 0x08#8 0#14 (of_decide_eq_true hi))
  | nop | absorbInit | padRate | permute | searchNonce | searchChecksum | cancel => rfl

/-- The operands of a well-formed command's word fit their fields and have that word. -/
theorem encode_operands_encode {i : Instr} (hi : i.wf = true) :
    (operands i.op (encode i)).wf = true ∧ encode (operands i.op (encode i)) = encode i := by
  rw [operands_encode hi]
  exact ⟨hi, rfl⟩

/-- A word that selects a row is the word of the command of its operands, and they fit their fields. -/
theorem encode_operands {op : Op} {w : Reg} (h : w &&& op.row.mask = op.row.pattern) :
    (operands op w).wf = true ∧ encode (operands op w) = w := by
  cases op with
  | absorbTrits =>
    obtain ⟨auto, n, hn, rfl⟩ := selects_absorbTrits_iff.mp h
    exact encode_operands_encode (i := .absorbTrits n auto) (decide_eq_true hn)
  | lanePattern =>
    obtain ⟨off, hoff, rfl⟩ := selects_lanePattern_iff.mp h
    exact encode_operands_encode (i := .lanePattern off) (decide_eq_true hoff)
  | increment =>
    obtain ⟨hi, hhi, lo, hlo, rfl⟩ := selects_increment_iff.mp h
    exact encode_operands_encode (i := .increment lo hi) (by simpa [Instr.wf] using ⟨hlo, hhi⟩)
  | readCell =>
    obtain ⟨idx, hidx, rfl⟩ := selects_readCell_iff.mp h
    exact encode_operands_encode (i := .readCell idx) (decide_eq_true hidx)
  | writeCell =>
    obtain ⟨idx, hidx, rfl⟩ := selects_writeCell_iff.mp h
    exact encode_operands_encode (i := .writeCell idx) (decide_eq_true hidx)
  | nop | absorbInit | padRate | permute | searchNonce | searchChecksum | cancel =>
    obtain rfl := selects_exactly_iff.mp h
    exact ⟨rfl, rfl⟩

/-! ### The statements -/

/-- Settles O1: the word selects its own command's row, and the row's operands are the command's. -/
theorem decodeOfEncodeIsIdentity : Obligations.DecodeOfEncodeIsIdentity :=
  fun _ hi => decode_eq_ok_iff.mpr ⟨encode_selects hi, operands_encode hi⟩

/-- Settles O2: a word that decodes selects the row of its command, and the command is the row's operands. -/
theorem encodeOfDecodeIsIdentity : Obligations.EncodeOfDecodeIsIdentity := by
  intro w i h
  obtain ⟨hw, hi⟩ := decode_eq_ok_iff.mp h
  simpa only [hi] using encode_operands hw

/-- Settles O3: the operands of a row make a command of that row, and a word decodes by its command's row. -/
theorem wordSelectsRowIffMaskMatches : Obligations.WordSelectsRowIffMaskMatches := by
  intro w r hr
  rw [decode_eq_ok_iff, op_operands, row_of_mem r hr]
  exact and_iff_left rfl

/-- Settles O4: a word that selects a row has the row's OPCODE, which is listed and is no other row's, and has the row's
reserved bits 0. -/
theorem illegalWordGivesErrOpcode : Obligations.IllegalWordGivesErrOpcode := by
  refine ⟨fun w s hill => Machine.submitCommand_of_illegal hill s, ?_, ?_⟩
  · intro w hfree r hr hw
    have hlisted := opcode_listed r hr
    rw [← opcode_of_selects hr hw] at hlisted
    omega
  · intro w r hr hop hres q hq hw
    have hqr : q = r := eq_of_opcode_eq q hq r hr ((opcode_of_selects hq hw).symm.trans hop)
    subst hqr
    exact hres (by rw [← BitVec.and_assoc, hw, pattern_operandBits q hq])

/-- A word that is the encoding of a well-formed command decodes to it. -/
theorem decode_of_encode_eq {w : Reg} {i : Instr} (hi : i.wf = true) (hw : encode i = w) : decode w = .ok i :=
  hw ▸ decodeOfEncodeIsIdentity i hi

/-- Settles O5: each word is the encoding of its command. -/
theorem exampleWordsDecode : Obligations.ExampleWordsDecode :=
  ⟨decode_of_encode_eq rfl rfl, decode_of_encode_eq rfl rfl, decode_of_encode_eq rfl rfl, decode_of_encode_eq rfl rfl,
    decode_of_encode_eq rfl rfl, decode_of_encode_eq rfl rfl⟩

end Sys2Proof
end

section
/-! PROOF. The Transform: 27 rounds of the closed form, the cell update in one lane, and PERMUTE. -/

namespace Sys2Proof.Machine

open Sys2Proof.Safety

/-! ### The closed form (40_permutation.md R115) -/

/-- The cell function's two operands, by the schedule of R115. -/
theorem getCell_roundRef (B : Buffer) {i : Nat} (h : i < 729) :
    getCell (roundRef B) i = cellUpdate (getCell B (364 * i % 729)) (getCell B (364 * (i + 1) % 729)) := by
  simp [getCell_eq _ h, roundRef]

/-- The cursor's position names a cell of the buffer. -/
theorem cursor_lt (i : Nat) : 364 * i % 729 < 729 := Nat.mod_lt _ (by decide)

theorem transformRound_eq_roundRef (B : Buffer) : (transformRound 0 B).1 = roundRef B :=
  buffer_ext fun _ hi => (getCell_transformRound B hi).trans (getCell_roundRef B hi).symm

theorem roundsRef_eq_iterate (k : Nat) (B : Buffer) : roundsRef k B = roundRef^[k] B := by
  induction k generalizing B with
  | zero => rfl
  | succ k ih => rw [roundsRef, ih, Function.iterate_succ_apply]

theorem tritRounds_eq_iterate (k : Nat) (f : Nat → Trit) : tritRounds k f = tritRound^[k] f := by
  induction k generalizing f with
  | zero => rfl
  | succ k ih => rw [tritRounds, ih, Function.iterate_succ_apply]

/-- A Transform in any engine iterates the closed-form round: each of its rounds starts at cursor 0. -/
theorem runTransform_snd (e : Engine) (B : Buffer) : (runTransform e B).2 = roundRef^[27] B := by
  rw [runTransform, transformRounds_snd _ _ _ _ rfl, funext transformRound_eq_roundRef, Config.rounds]

theorem transform_eq_iterate (B : Buffer) : transform B = roundRef^[27] B := runTransform_snd Engine.blank B

/-- A relation between a buffer and a reference value that every round keeps is kept by every number of rounds. -/
theorem iterate_roundRef_rel {α : Type} {g : α → α} {R : Buffer → α → Prop}
    (hround : ∀ B a, R B a → R (roundRef B) (g a)) (k : Nat) {B : Buffer} {a : α} (h : R B a) :
    R (roundRef^[k] B) (g^[k] a) := by
  induction k generalizing B a with
  | zero => exact h
  | succ k ih =>
    rw [Function.iterate_succ_apply, Function.iterate_succ_apply]
    exact ih (hround B a h)

/-! ### The cell update in one lane (40_permutation.md R116, R117) -/

/-- delta in one lane, from the lane codes {beta, alpha} and {gamma, lambda} (40_permutation.md R113). -/
def laneDelta (x y : Code) : Bool := (x.getLsbD 0 || !y.getLsbD 1) && (y.getLsbD 0 != x.getLsbD 1)

/-- The cell update in one lane: the table of 40_permutation.md R117. -/
def laneUpdate (x y : Code) : Code :=
  BitVec.ofBool ((x.getLsbD 0 != y.getLsbD 1) || laneDelta x y) ++ BitVec.ofBool (!laneDelta x y)

theorem laneCode_low (c : Cell) (b : Nat) : (laneCode c b).getLsbD 0 = c.L.getLsbD b := by
  rw [laneCode, BitVec.getLsbD_append]
  simp

theorem laneCode_high (c : Cell) (b : Nat) : (laneCode c b).getLsbD 1 = c.H.getLsbD b := by
  rw [laneCode, BitVec.getLsbD_append]
  simp

/-- Lane b of an updated cell is a function of lane b of the two cells alone. -/
theorem laneCode_cellUpdate (x y : Cell) {b : Nat} (h : b < 64) :
    laneCode (cellUpdate x y) b = laneUpdate (laneCode x b) (laneCode y b) := by
  rw [laneUpdate, laneDelta, laneCode_low, laneCode_low, laneCode_high, laneCode_high, ← cellUpdate_H x y b h,
    ← cellUpdate_L x y b h, laneCode]

/-- No row of the table outputs (0,0). -/
theorem laneUpdate_ne_zero : ∀ x y : Code, laneUpdate x y ≠ 0b00#2 := by decide

/-- On valid codes the table is F. -/
theorem laneUpdate_codeOf (u v : Trit) : laneUpdate (codeOf u) (codeOf v) = codeOf (tritF u v) := by
  cases u <;> cases v <;> decide

/-- On uniform cells the update is F in every lane. -/
theorem cellUpdate_bcast (u v : Trit) : cellUpdate (bcast u) (bcast v) = bcast (tritF u v) := by
  cases u <;> cases v <;> decide

/-! ### What one round keeps -/

/-- Lane b of one cell after a round. -/
theorem laneCode_roundRef (B : Buffer) {i b : Nat} (hi : i < 729) (hb : b < 64) :
    laneCode (getCell (roundRef B) i) b =
      laneUpdate (laneCode (getCell B (364 * i % 729)) b) (laneCode (getCell B (364 * (i + 1) % 729)) b) := by
  rw [getCell_roundRef B hi, laneCode_cellUpdate _ _ hb]

theorem roundRef_laneAgrees {b : Nat} (hb : b < 64) (B B' : Buffer) (h : LaneAgrees B B' b) :
    LaneAgrees (roundRef B) (roundRef B') b := by
  intro i hi
  rw [laneCode_roundRef B hi hb, laneCode_roundRef B' hi hb, h _ (cursor_lt i), h _ (cursor_lt (i + 1))]

theorem roundRef_laneHolds {b : Nat} (hb : b < 64) (B : Buffer) (f : Nat → Trit) (h : LaneHolds B b f) :
    LaneHolds (roundRef B) b (tritRound f) := by
  intro i hi
  rw [laneCode_roundRef B hi hb, h _ (cursor_lt i), h _ (cursor_lt (i + 1)), laneUpdate_codeOf, tritRound]

theorem roundRef_uniformCells (B : Buffer) (h : UniformCells B 0 729) : UniformCells (roundRef B) 0 729 := by
  intro i _ hi
  obtain ⟨u, hu⟩ := h _ (Nat.zero_le _) (cursor_lt i)
  obtain ⟨v, hv⟩ := h _ (Nat.zero_le _) (cursor_lt (i + 1))
  exact ⟨tritF u v, by rw [getCell_roundRef B hi, hu, hv, cellUpdate_bcast]⟩

/-- A round takes the constant state t to the constant state F(t, t) (40_permutation.md R119). -/
theorem roundRef_replicate (t : Trit) :
    roundRef (Vector.replicate 729 (bcast t)) = Vector.replicate 729 (bcast (tritF t t)) := by
  refine buffer_ext fun i hi => ?_
  rw [getCell_roundRef _ hi, getCell_replicate _ (cursor_lt i), getCell_replicate _ (cursor_lt (i + 1)),
    getCell_replicate _ hi, cellUpdate_bcast]

/-- The orbit 0 → -1 → +1 → 0 of a constant state (40_permutation.md R119). -/
theorem tritF_diagonal_period (t : Trit) : Function.IsPeriodicPt (fun u => tritF u u) 3 t := by
  cases t <;> rfl

/-! ### The statements -/

/-- Settles O30: every engine computes the iterated closed-form round. -/
theorem transformIsClosedForm : Obligations.TransformIsClosedForm := fun e B =>
  (runTransform_snd e B).trans (roundsRef_eq_iterate 27 B).symm

/-- Settles O31: the last round writes every lane from the table of R117, which has no row with output (0,0). -/
theorem transformOutputsValidTrits : Obligations.TransformOutputsValidTrits := by
  intro B i b hi hb
  rw [transform_eq_iterate, Function.iterate_succ_apply', laneCode_roundRef _ hi hb]
  exact laneUpdate_ne_zero _ _

/-- Settles O32: each round keeps the agreement in one lane and the uniform cells. -/
theorem transformKeepsLanesApart : Obligations.TransformKeepsLanesApart := by
  refine ⟨fun B B' b hb h => ?_, fun B h => ?_⟩
  · rw [transform_eq_iterate, transform_eq_iterate]
    exact iterate_roundRef_rel (R := fun X Y => LaneAgrees X Y b) (roundRef_laneAgrees hb) 27 h
  · rw [transform_eq_iterate]
    exact Function.Iterate.rec (fun X => UniformCells X 0 729) h roundRef_uniformCells 27

/-- Settles O33: the cell update is F in a valid lane, so the rounds of the buffer simulate the rounds of the trits. -/
theorem transformIsTritTransformPerLane : Obligations.TransformIsTritTransformPerLane := by
  refine ⟨fun x y b u v hb hx hy => ?_, fun B b f hb h => ?_⟩
  · rw [laneCode_cellUpdate x y hb, hx, hy, laneUpdate_codeOf]
  · rw [transform_eq_iterate, tritRounds_eq_iterate]
    exact iterate_roundRef_rel (R := fun X g => LaneHolds X b g) (roundRef_laneHolds hb) 27 h

/-- Settles O34: the rounds act on constant states as t ↦ F(t, t), whose period 3 divides 27. -/
theorem transformFixesConstantStates : Obligations.TransformFixesConstantStates := by
  intro t
  have hrounds : roundRef^[27] (Vector.replicate 729 (bcast t)) =
      Vector.replicate 729 (bcast ((fun u => tritF u u)^[27] t)) :=
    iterate_roundRef_rel (R := fun X u => X = Vector.replicate 729 (bcast u))
      (fun _ u h => h ▸ roundRef_replicate u) 27 rfl
  have hfix : (fun u => tritF u u)^[27] t = t := (tritF_diagonal_period t).const_mul 9
  exact ⟨(transformRound_eq_roundRef _).trans (roundRef_replicate t), by rw [transform_eq_iterate, hrounds, hfix]⟩

/-- PERMUTE on a valid MID with no search active is accepted (40_permutation.md R121). -/
theorem exec_permute {s : State} (hidle : s.active = 0) (hmid : s.midValid = true) :
    exec .permute s = .next ((permuteMid s).withErr .ok) :=
  runCommand_accepted permuteMid s (firstError_ready s (by simp [State.busy, hidle]) hmid)

/-- Settles O28: an accepted PERMUTE, with the closed form for what its engine computes. -/
theorem permuteTransformsMid : Obligations.PermuteTransformsMid := by
  intro s hidle hmid
  rw [exec_permute hidle hmid, ← transformIsClosedForm s.permuteEngine s.mid]
  rfl

end Sys2Proof.Machine
end

section
/-! PROOF. The absorber's commands: the operands that they and the other commands refuse, the cells that they write,
and the block close in the middle of ABSORB_TRITS. -/

namespace Sys2Proof.Machine

open Sys2Proof.Safety

/-! ### Commands on a device that is ready: no search active and MID valid -/

section Ready

variable {s : State} {cs : List (Bool × ErrCode)} (hidle : s.active = 0) (hmid : s.midValid = true)
include hidle hmid

/-- The BUSY and UNINIT checks pass, so a command's own checks decide (60_exceptions.md R236). -/
theorem firstError_readyChecks_append : firstError (readyChecks s ++ cs) = firstError cs := by
  rw [firstError_append, firstError_ready s (by simp [State.busy, hidle]) hmid, Option.none_or]

theorem runCommand_ready_rejected {e : ErrCode} (h : firstError cs = some e) (f : State → State) :
    runCommand (readyChecks s ++ cs) f s = .next (s.withErr e) :=
  runCommand_rejected f s ((firstError_readyChecks_append hidle hmid).trans h)

theorem runCommand_ready_accepted (h : firstError cs = none) (f : State → State) :
    runCommand (readyChecks s ++ cs) f s = .next ((f s).withErr .ok) :=
  runCommand_accepted f s ((firstError_readyChecks_append hidle hmid).trans h)

end Ready

/-- A first check that fails gives its code, whatever the checks after it say. -/
theorem firstError_cons_of_true {b : Bool} (h : b = true) (e : ErrCode) (cs : List (Bool × ErrCode)) :
    firstError ((b, e) :: cs) = some e := by
  rw [h, firstError]

/-- A check that passes leaves the decision to those after it. -/
theorem firstError_cons_of_false {b : Bool} (h : b = false) (e : ErrCode) (cs : List (Bool × ErrCode)) :
    firstError ((b, e) :: cs) = firstError cs := by
  rw [h, firstError]

/-! ### The consumed slots of DATA0 (41_absorber.md R132) -/

theorem mapM_eq_some_iff {α β : Type} (f : α → Option β) (l : List α) (r : List β) :
    l.mapM f = some r ↔ l.map f = r.map some := by
  induction l generalizing r with
  | nil => cases r <;> simp
  | cons a l ih =>
    cases r with
    | nil => simp [Option.bind_eq_some_iff]
    | cons b r => simp [Option.bind_eq_some_iff, ih]

theorem mapM_eq_none_iff {α β : Type} (f : α → Option β) (l : List α) :
    l.mapM f = none ↔ ∃ a ∈ l, f a = none := by
  induction l with
  | nil => simp
  | cons a l ih =>
    cases h : f a with
    | none => simp [h]
    | some b => simp [h, ← Option.eq_none_iff_forall_ne_some, ih]

/-- The trits that ABSORB_TRITS consumes are those of the first n slots. -/
theorem slotTrits_eq_some {r : Reg} {n : Nat} {ts : List Trit} (hlen : ts.length = n)
    (h : ∀ j, j < n → dec (slot r j) = ts[j]?) : slotTrits r n = some ts := by
  refine (mapM_eq_some_iff _ _ _).mpr (List.ext_getElem (by simp [hlen]) fun j hj _ => ?_)
  have hj' : j < n := by simpa using hj
  simp [h j hj', hlen ▸ hj']

/-- There are no such trits exactly where a consumed slot holds 0b00. -/
theorem slotTrits_eq_none_iff {r : Reg} {n : Nat} : slotTrits r n = none ↔ ∃ j, j < n ∧ slot r j = 0b00#2 := by
  simp only [slotTrits, mapM_eq_none_iff, dec_eq_none_iff, List.mem_range]

/-! ### Rejected operands -/

/-- One cell that is no broadcast makes its range not uniform (30_encoding.md R93). -/
theorem uniformRange_eq_false {B : Buffer} {lo hi i : Nat} (hlo : lo ≤ i) (hhi : i < hi)
    (h : ∀ t, getCell B i ≠ bcast t) : uniformRange B lo hi = false := by
  refine Bool.eq_false_iff.mpr fun hu => ?_
  obtain ⟨t, ht⟩ := (uniform_iff _).mp ((uniformRange_iff B lo hi).mp hu i hlo hhi)
  exact h t ht

/-- Settles O18: on a ready device the first check of each command's own is the one on its operands' range, and
INCREMENT's second is the one on its cells. -/
theorem badOperandsAreRejected : Obligations.BadOperandsAreRejected := by
  intro s hidle hmid
  have hfirst {b : Bool} (h : b = true) (cs : List (Bool × ErrCode)) (f : State → State) :
      runCommand (readyChecks s ++ (b, .range) :: cs) f s = .next (s.withErr .range) :=
    runCommand_ready_rejected hidle hmid (firstError_cons_of_true h _ cs) f
  refine ⟨fun idx h => hfirst (decide_eq_true h) _ _, fun idx h => hfirst (decide_eq_true h) _ _,
    fun off h => hfirst (decide_eq_true h) _ _, fun lo hi h => hfirst (by simpa using h) _ _,
    fun n auto h => hfirst (by simpa using h) _ _, fun lo hi i hle hhi hlo hlt hcell => ?_⟩
  have hrange : (decide (hi < lo) || decide (729 < hi)) = false :=
    Bool.or_eq_false_iff.mpr ⟨decide_eq_false (by omega), decide_eq_false (by omega)⟩
  have hcells : (!uniformRange s.mid lo hi) = true := congrArg not (uniformRange_eq_false hlo hlt hcell)
  exact runCommand_ready_rejected hidle hmid
    ((firstError_cons_of_false hrange _ _).trans (firstError_cons_of_true hcells _ _)) _

/-- A count in 1..16 passes the first of ABSORB_TRITS' own checks. -/
theorem absorbCount_inRange {n : Nat} (h1 : 1 ≤ n) (h16 : n ≤ 16) : (decide (n = 0) || decide (16 < n)) = false :=
  Bool.or_eq_false_iff.mpr ⟨decide_eq_false (by omega), decide_eq_false (by omega)⟩

/-- Settles O19: the check on the slots comes before the one on the rate. -/
theorem absorbTritsRejections : Obligations.AbsorbTritsRejections := by
  intro s n auto hidle hmid h1 h16
  have hcount := absorbCount_inRange h1 h16
  refine ⟨fun hbad => ?_, fun hgood hhold hfull => ?_⟩
  · have hslots : (slotTrits s.data0 n).isNone = true := congrArg Option.isNone (slotTrits_eq_none_iff.mpr hbad)
    exact runCommand_ready_rejected hidle hmid
      ((firstError_cons_of_false hcount _ _).trans (firstError_cons_of_true hslots _ _)) _
  · have hslots : (slotTrits s.data0 n).isNone = false := by
      rw [Option.isNone_eq_false_iff, Option.isSome_iff_ne_none]
      intro hnone
      obtain ⟨j, hj, hzero⟩ := slotTrits_eq_none_iff.mp hnone
      exact hgood j hj hzero
    have hrate : (!auto && decide (Config.hashLength < s.absPos + n)) = true := by
      simp [hhold, Config.hashLength, hfull]
    exact runCommand_ready_rejected hidle hmid
      ((firstError_cons_of_false hcount _ _).trans ((firstError_cons_of_false hslots _ _).trans
        (firstError_cons_of_true hrate _ _))) _

/-! ### The reference forms of the statements, cell by cell -/

theorem getCell_filled (B : Buffer) (lo hi : Nat) (c : Cell) {i : Nat} (h : i < 729) :
    getCell (filled B lo hi c) i = if lo ≤ i ∧ i < hi then c else getCell B i := by
  simp [getCell_eq _ h, filled]

theorem getCell_placed (B : Buffer) (pos : Nat) (ts : List Trit) {i : Nat} (h : i < 729) :
    getCell (placed B pos ts) i =
      if pos ≤ i ∧ i < pos + ts.length then bcast (ts.getD (i - pos) .zero) else getCell B i := by
  simp [getCell_eq _ h, placed]

theorem fillRange_eq_filled (B : Buffer) (lo hi : Nat) (c : Cell) (h : hi ≤ 729) :
    fillRange B lo hi c = filled B lo hi c :=
  buffer_ext fun i hi' => by rw [getCell_fillRange B lo hi c h, getCell_filled B lo hi c hi']

/-- A fill of the whole buffer leaves nothing of what it held. -/
theorem fillRange_all (B : Buffer) (c : Cell) : fillRange B 0 729 c = Vector.replicate 729 c :=
  buffer_ext fun i hi => by
    rw [getCell_fillRange B 0 729 c le_rfl, if_pos ⟨Nat.zero_le i, hi⟩, getCell_replicate c hi]

theorem placed_nil (B : Buffer) (pos : Nat) : placed B pos [] = B :=
  buffer_ext fun i hi => by rw [getCell_placed B pos [] hi, List.length_nil, if_neg (by omega)]

/-- Trits placed one after another: the first, then the others from the next cell on. -/
theorem placed_cons (B : Buffer) {pos : Nat} (t : Trit) (ts : List Trit) (h : pos < 729) :
    placed B pos (t :: ts) = placed (setCell B pos (bcast t)) (pos + 1) ts := by
  refine buffer_ext fun i hi => ?_
  rw [getCell_placed _ _ _ hi, getCell_placed _ _ _ hi, getCell_setCell _ _ _ _ h, List.length_cons]
  rcases Nat.lt_trichotomy i pos with hlt | rfl | hgt
  · rw [if_neg (by omega), if_neg (by omega), if_neg (by omega)]
  · rw [if_pos (by omega), if_neg (by omega), if_pos rfl, Nat.sub_self, List.getD_cons_zero]
  · obtain ⟨k, rfl⟩ : ∃ k, i = pos + 1 + k := ⟨i - (pos + 1), by omega⟩
    rw [show pos + 1 + k - pos = k + 1 by omega, List.getD_cons_succ, Nat.add_sub_cancel_left,
      if_neg (show pos + 1 + k ≠ pos by omega)]
    exact if_congr (by omega) rfl rfl

/-! ### ABSORB_INIT, PAD_RATE and LANE_PATTERN -/

/-- Settles O24: the fill reaches every cell, whatever MID held. -/
theorem absorbInitClearsMid : Obligations.AbsorbInitClearsMid := by
  intro s hidle
  have haccept : exec .absorbInit s = .next ((initMid s).withErr .ok) :=
    runCommand_accepted initMid s (firstError_cons_of_false (by simp [State.busy, hidle]) _ _)
  rw [haccept, initMid, Config.stateLength, fillRange_all]
  rfl

/-- Settles O27: an accepted PAD_RATE, with the reference form of its fill. -/
theorem padRateFillsRate : Obligations.PadRateFillsRate := by
  intro s hidle hmid
  have haccept : exec .padRate s = .next ((padRate s).withErr .ok) :=
    runCommand_ready_accepted (cs := []) hidle hmid rfl padRate
  rw [haccept, padRate, Config.hashLength, fillRange_eq_filled _ _ _ _ (by decide)]
  rfl

/-- A fold of writes of n values to the cells from off on, one cell each. -/
theorem getCell_foldl_setCell_range (n off : Nat) (c : Nat → Cell) (B : Buffer) (h : off + n ≤ 729) (i : Nat) :
    getCell ((List.range n).foldl (fun B k => setCell B (off + k) (c k)) B) i =
      if off ≤ i ∧ i < off + n then c (i - off) else getCell B i := by
  induction n with
  | zero => rw [if_neg (by omega), List.range_zero, List.foldl_nil]
  | succ n ih =>
    rw [List.range_succ, List.foldl_append, List.foldl_cons, List.foldl_nil, getCell_setCell _ _ _ _ (by omega),
      ih (by omega)]
    by_cases hi : i = off + n
    · rw [if_pos hi, if_pos (by omega), hi, Nat.add_sub_cancel_left]
    · rw [if_neg hi]
      exact if_congr (by omega) rfl rfl

/-- LANE_PATTERN writes four cells and no other (41_absorber.md R137). -/
theorem getCell_writePattern (s : State) {off : Nat} (h : off ≤ 239) (i : Nat) :
    getCell (writePattern off s).mid i =
      if off ≤ i ∧ i < off + 4 then s.params.lanePattern.getD (i - off) Cell.blank else getCell s.mid i :=
  getCell_foldl_setCell_range 4 off (fun k => s.params.lanePattern.getD k Cell.blank) s.mid (by omega) i

/-- Settles O29: MID after the four writes, read cell by cell. -/
theorem lanePatternWritesFourCells : Obligations.LanePatternWritesFourCells := by
  intro s off hidle hmid hoff
  refine ⟨(writePattern off s).mid, ?_, fun k => ?_, fun i hi => ?_⟩
  · exact runCommand_ready_accepted hidle hmid (firstError_cons_of_false (decide_eq_false (by omega)) _ _) _
  · rw [getCell_writePattern s hoff, if_pos (by omega), Nat.add_sub_cancel_left]
    simp [Vector.getD]
  · rw [getCell_writePattern s hoff, if_neg (by omega)]

/-! ### ABSORB_TRITS (41_absorber.md R132, R133) -/

/-- The trits placed at ABS_POS, ABS_POS behind them: the effect of trits that close no block. -/
def placeTrits (ts : List Trit) (s : State) : State :=
  { s with mid := placed s.mid s.absPos ts, absPos := s.absPos + ts.length }

@[simp] theorem placeTrits_absPos (ts : List Trit) (s : State) :
    (placeTrits ts s).absPos = s.absPos + ts.length := rfl

theorem placeTrits_nil (s : State) : placeTrits [] s = s := by rw [placeTrits, placed_nil]; rfl

/-- Writing trits one at a time places them. -/
theorem placeTrits_writeTrit (t : Trit) (ts : List Trit) {s : State} (h : s.absPos < 729) :
    placeTrits ts (writeTrit t s) = placeTrits (t :: ts) s := by
  simp only [placeTrits, writeTrit, placed_cons _ _ _ h, List.length_cons, Nat.add_assoc, Nat.add_comm 1]

theorem closeIfFull_of_lt {s : State} (h : s.absPos < 243) : closeIfFull s = s :=
  if_neg (Nat.ne_of_lt h)

theorem closeIfFull_of_full {s : State} (h : s.absPos = 243) : closeIfFull s = closeBlock s := if_pos h

/-- The hold form up to a full rate closes no block. -/
theorem foldl_absorbTrit_hold (ts : List Trit) {s : State} (h : s.absPos + ts.length ≤ 243) :
    ts.foldl (absorbTrit false) s = placeTrits ts s := by
  induction ts generalizing s with
  | nil => exact (placeTrits_nil s).symm
  | cons t ts ih =>
    rw [List.length_cons] at h
    have hstep : absorbTrit false s t = writeTrit t s := congrArg (writeTrit t) (closeIfFull_of_lt (by omega))
    rw [List.foldl_cons, hstep, ih (show s.absPos + 1 + ts.length ≤ 243 by omega),
      placeTrits_writeTrit t ts (by omega)]

/-- The auto form up to a full rate: at most the last trit closes the block. -/
theorem foldl_absorbTrit_auto (ts : List Trit) {s : State} (hpos : s.absPos < 243) (h : s.absPos + ts.length ≤ 243) :
    ts.foldl (absorbTrit true) s = closeIfFull (placeTrits ts s) := by
  induction ts generalizing s with
  | nil => rw [placeTrits_nil, closeIfFull_of_lt hpos]; rfl
  | cons t ts ih =>
    rw [List.length_cons] at h
    have hstep : absorbTrit true s t = closeIfFull (writeTrit t s) :=
      congrArg (fun u => closeIfFull (writeTrit t u)) (closeIfFull_of_lt hpos)
    rw [List.foldl_cons, hstep]
    cases ts with
    | nil => rw [← placeTrits_writeTrit t [] (by omega), placeTrits_nil]; rfl
    | cons u us =>
      rw [List.length_cons] at h
      have hnext : (writeTrit t s).absPos < 243 := show s.absPos + 1 < 243 by omega
      rw [closeIfFull_of_lt hnext, ih hnext (show s.absPos + 1 + (us.length + 1) ≤ 243 by omega),
        placeTrits_writeTrit t (u :: us) (by omega)]

/-- The auto form below a full rate closes no block. -/
theorem foldl_absorbTrit_auto_below (ts : List Trit) {s : State} (h : s.absPos + ts.length < 243) :
    ts.foldl (absorbTrit true) s = placeTrits ts s := by
  rw [foldl_absorbTrit_auto ts (by omega) (by omega), closeIfFull_of_lt h]

/-- The auto form past the end of the rate: the block is closed once, between the trits that fill it and the others. -/
theorem foldl_absorbTrit_auto_closing {ts : List Trit} {s : State} (hpos : s.absPos < 243)
    (hfull : 243 ≤ s.absPos + ts.length) (hlen : ts.length ≤ 16) :
    ts.foldl (absorbTrit true) s =
      placeTrits (ts.drop (243 - s.absPos)) (closeBlock (placeTrits (ts.take (243 - s.absPos)) s)) := by
  have htake : s.absPos + (ts.take (243 - s.absPos)).length = 243 := by rw [List.length_take]; omega
  calc ts.foldl (absorbTrit true) s
      = (ts.take (243 - s.absPos) ++ ts.drop (243 - s.absPos)).foldl (absorbTrit true) s := by
        rw [List.take_append_drop]
    _ = (ts.drop (243 - s.absPos)).foldl (absorbTrit true) (closeBlock (placeTrits (ts.take (243 - s.absPos)) s)) := by
        rw [List.foldl_append, foldl_absorbTrit_auto _ hpos htake.le, closeIfFull_of_full htake]
    _ = _ := foldl_absorbTrit_auto_below _ (by rw [closeBlock_absPos, List.length_drop]; omega)

/-- On a full rate the first trit finds the pending block closed. -/
theorem absorbTrit_full (auto : Bool) (t : Trit) {s : State} (h : s.absPos = 243) :
    absorbTrit auto s t = absorbTrit auto (closeBlock s) t := by
  have hclosed : closeIfFull (closeBlock s) = closeBlock s := closeIfFull_of_lt (by rw [closeBlock_absPos]; decide)
  rw [absorbTrit, absorbTrit, closeIfFull_of_full h, hclosed]

/-- The auto form on a full rate: the pending block is closed before the trits. -/
theorem foldl_absorbTrit_auto_full {ts : List Trit} {s : State} (hpos : s.absPos = 243) (h1 : 1 ≤ ts.length)
    (hlen : ts.length ≤ 16) : ts.foldl (absorbTrit true) s = placeTrits ts (closeBlock s) := by
  obtain ⟨t, us, rfl⟩ := List.exists_cons_of_length_pos h1
  rw [List.foldl_cons, absorbTrit_full true t hpos, ← List.foldl_cons]
  exact foldl_absorbTrit_auto_below _ (by rw [closeBlock_absPos]; omega)

/-- An accepted ABSORB_TRITS. -/
theorem exec_absorbTrits {s : State} {n : Nat} {auto : Bool} {ts : List Trit} (hidle : s.active = 0)
    (hmid : s.midValid = true) (h1 : 1 ≤ n) (h16 : n ≤ 16) (hlen : ts.length = n)
    (hslots : ∀ j, j < n → dec (slot s.data0 j) = ts[j]?) (hrate : auto = false → s.absPos + n ≤ 243) :
    exec (.absorbTrits n auto) s = .next ((absorbAll auto ts s).withErr .ok) := by
  have htrits := slotTrits_eq_some hlen hslots
  have hnofail : (!auto && decide (Config.hashLength < s.absPos + n)) = false := by
    cases auto with
    | false => exact decide_eq_false (Nat.not_lt.mpr (hrate rfl))
    | true => rfl
  have hexec : exec (.absorbTrits n auto) s = runCommand (absorbChecks n auto s) (absorbAll auto ts) s := by
    rw [exec, execAbsorbTrits, htrits, Option.getD_some]
  rw [hexec]
  exact runCommand_ready_accepted hidle hmid
    ((firstError_cons_of_false (absorbCount_inRange h1 h16) _ _).trans
      ((firstError_cons_of_false (congrArg Option.isNone htrits) _ _).trans (firstError_cons_of_false hnofail _ _))) _

/-- Settles O25: within a block both forms only place the trits. -/
theorem absorbTritsWithinBlock : Obligations.AbsorbTritsWithinBlock := by
  intro s n auto ts hidle hmid h1 h16 hlen hslots hrate
  have hplace : ts.foldl (absorbTrit auto) s = placeTrits ts s := by
    cases auto with
    | false => exact foldl_absorbTrit_hold ts (hlen ▸ hrate)
    | true => exact foldl_absorbTrit_auto_below ts (hlen ▸ hrate)
  rw [exec_absorbTrits hidle hmid h1 h16 hlen hslots (by rintro rfl; exact hrate), absorbAll, hplace, hlen, placeTrits,
    hlen]
  rfl

/-- What an engine computes is the Transform, whatever the engine held (40_permutation.md R120). -/
theorem runTransform_snd_eq_transform (e : Engine) (B : Buffer) : (runTransform e B).2 = transform B :=
  (runTransform_snd e B).trans (transform_eq_iterate B).symm

/-- A block close, with the Transform for what its engine computes (41_absorber.md R133). -/
theorem closeBlock_eq (s : State) :
    closeBlock s =
      { s with
        mid := transform s.mid, closeEngine := (runTransform s.closeEngine s.mid).1, absPos := 0,
        absBlocks := s.absBlocks + 1#32 } := by
  rw [closeBlock, runTransform_snd_eq_transform, finishBlock]

/-- Settles O26: the block is closed between the trits, or before them on a full rate. -/
theorem absorbTritsClosesBlock : Obligations.AbsorbTritsClosesBlock := by
  intro s n ts hidle hmid h1 h16 hlen hslots
  have haccept := exec_absorbTrits hidle hmid h1 h16 hlen hslots (auto := true) (by simp)
  subst hlen
  refine ⟨fun hpos hfull => ?_, fun hpos => ?_⟩
  · have hend : 0 + (ts.drop (243 - s.absPos)).length = s.absPos + ts.length - 243 := by
      rw [List.length_drop]; omega
    rw [haccept, absorbAll, foldl_absorbTrit_auto_closing hpos hfull h16, closeBlock_eq, ← hend]
    rfl
  · rw [haccept, absorbAll, foldl_absorbTrit_auto_full hpos h1 h16, closeBlock_eq, placeTrits, Nat.zero_add]
    rfl

end Sys2Proof.Machine
end

section
/-! PROOF. The ternary increment as a counter: its value, its range, and that Inc adds one modulo 3 to the number of
digits. -/

namespace Sys2Proof.Machine

open Sys2Proof.Safety

/-! ### Digits and uniform cells -/

@[simp] theorem digit_neg : digit (bcast .neg) = -1 := by rw [digit, val_bcast]

@[simp] theorem digit_zero : digit (bcast .zero) = 0 := by rw [digit, val_bcast]

@[simp] theorem digit_pos : digit (bcast .pos) = 1 := by rw [digit, val_bcast]

theorem uniformRange_iff_uniformCells {B : Buffer} {lo hi : Nat} :
    uniformRange B lo hi = true ↔ UniformCells B lo hi := by
  simp only [uniformRange_iff, uniform_iff, UniformCells]

theorem uniformCells_mono {B : Buffer} {lo hi a b : Nat} (h : UniformCells B lo hi) (ha : lo ≤ a) (hb : b ≤ hi) :
    UniformCells B a b :=
  fun i hi1 hi2 => h i (ha.trans hi1) (hi2.trans_le hb)

/-! ### What Inc writes (42_nonce_search.md R150, R153) -/

theorem getCell_inc_of_notMem (B : Buffer) {lo hi j : Nat} (h : ¬ (lo ≤ j ∧ j < hi)) :
    getCell (inc B lo hi).2 j = getCell B j := by
  rw [inc]
  exact getCell_incCells_outside _ _ _ _ (by omega)

/-- Inc over digits keeps digits everywhere: in its range by R153, elsewhere because it writes nothing there. -/
theorem uniformCells_inc {B : Buffer} {lo hi a b : Nat} (hb : hi ≤ 729) (h : UniformCells B lo hi)
    (hab : UniformCells B a b) : UniformCells (inc B lo hi).2 a b := by
  intro j hj1 hj2
  by_cases hj : lo ≤ j ∧ j < hi
  · exact uniformRange_iff_uniformCells.mp (uniformRange_inc B lo hi hb (uniformRange_iff_uniformCells.mpr h)) j
      hj.1 hj.2
  · rw [getCell_inc_of_notMem B hj]
    exact hab j hj1 hj2

/-! ### The counter's value (42_nonce_search.md R154) -/

/-- The value reads the cells of the range alone. -/
theorem counterValue_congr {B B' : Buffer} {len lo : Nat}
    (h : ∀ j, lo ≤ j → j < lo + len → getCell B j = getCell B' j) : counterValue B len lo = counterValue B' len lo := by
  induction len generalizing lo with
  | zero => rfl
  | succ n ih =>
    rw [counterValue, counterValue, h lo le_rfl (by omega), ih fun j hj1 hj2 => h j (by omega) (by omega)]

/-- 3^len is odd: the values of a counter lie on both sides of 0. -/
theorem two_mul_counterMax (len : Nat) : 2 * counterMax len + 1 = 3 ^ len := by
  have hodd : Odd ((3 : Int) ^ len) := Odd.pow (by decide)
  obtain ⟨m, hm⟩ := hodd
  rw [counterMax, hm]
  omega

theorem counterMax_succ (len : Nat) : counterMax (len + 1) = 3 * counterMax len + 1 := by
  have h := two_mul_counterMax len
  have h' := two_mul_counterMax (len + 1)
  rw [pow_succ] at h'
  omega

/-- The value of a counter lies between its least and its greatest. -/
theorem counterValue_bounds (B : Buffer) (len lo : Nat) :
    -counterMax len ≤ counterValue B len lo ∧ counterValue B len lo ≤ counterMax len := by
  induction len generalizing lo with
  | zero => simp [counterMax, counterValue]
  | succ n ih =>
    obtain ⟨hlow, hhigh⟩ := ih (lo + 1)
    have hdigit : -1 ≤ digit (getCell B lo) ∧ digit (getCell B lo) ≤ 1 := by
      unfold digit; split <;> decide
    rw [counterValue, counterMax_succ]
    omega

/-- Different digits have different values. -/
theorem bcast_eq_of_digit_eq {t u : Trit} (h : digit (bcast t) = digit (bcast u)) : t = u := by
  cases t <;> cases u <;> simp at h ⊢

/-- Digits are determined by their value: the least significant one by its remainder modulo 3. -/
theorem getCell_eq_of_counterValue_eq {B B' : Buffer} {len lo : Nat} (h : UniformCells B lo (lo + len))
    (h' : UniformCells B' lo (lo + len)) (hv : counterValue B len lo = counterValue B' len lo) {j : Nat} (hj1 : lo ≤ j)
    (hj2 : j < lo + len) : getCell B j = getCell B' j := by
  induction len generalizing lo with
  | zero => omega
  | succ n ih =>
    obtain ⟨t, ht⟩ := h lo le_rfl (by omega)
    obtain ⟨u, hu⟩ := h' lo le_rfl (by omega)
    rw [counterValue, counterValue, ht, hu] at hv
    have hdigit : digit (bcast t) = digit (bcast u) := by
      cases t <;> cases u <;> simp only [digit_neg, digit_zero, digit_pos] at hv ⊢ <;> omega
    rcases hj1.eq_or_lt with rfl | hlt
    · rw [ht, hu, bcast_eq_of_digit_eq hdigit]
    · exact ih (lo := lo + 1) (uniformCells_mono h (by omega) (by omega))
        (uniformCells_mono h' (by omega) (by omega)) (by omega) hlt (by omega)

/-- Inc adds one, and a carry out of the range takes off the weight of the next digit. -/
theorem counterValue_incCells (count i : Nat) (B : Buffer) (hb : i + count ≤ 729)
    (hu : UniformCells B i (i + count)) :
    counterValue (incCells count i B).2 count i + (if (incCells count i B).1 then 3 ^ count else 0) =
      counterValue B count i + 1 := by
  induction count generalizing i B with
  | zero => simp [incCells, counterValue]
  | succ n ih =>
    obtain ⟨t, ht⟩ := hu i le_rfl (by omega)
    have hrest (c : Cell) : ∀ j, i + 1 ≤ j → getCell (setCell B i c) j = getCell B j :=
      fun j hj => getCell_setCell_other _ _ _ _ (by omega)
    have hstop (c : Cell) :
        counterValue (setCell B i c) (n + 1) i = digit c + 3 * counterValue B n (i + 1) := by
      rw [counterValue, getCell_setCell_same _ _ _ (by omega), counterValue_congr fun j hj _ => hrest c j hj]
    have hval : counterValue B (n + 1) i = digit (bcast t) + 3 * counterValue B n (i + 1) := by rw [counterValue, ht]
    rw [hval]
    cases t with
    | neg => simp [incCells, ht, val_bcast, nextSymbol, hstop]
    | zero => simp [incCells, ht, val_bcast, nextSymbol, hstop, add_comm]
    | pos =>
      have hcarry := ih (i + 1) (setCell B i (bcast .neg)) (by omega) fun j hj1 hj2 => by
        rw [hrest _ j hj1]; exact hu j (by omega) (by omega)
      rw [counterValue_congr (B := setCell B i (bcast .neg)) fun j hj _ => hrest _ j hj] at hcarry
      simp only [incCells, ht, val_bcast, nextSymbol, counterValue]
      rw [getCell_incCells_outside _ _ _ _ (by omega), getCell_setCell_same _ _ _ (by omega)]
      split_ifs at hcarry ⊢ <;> simp only [digit_neg, digit_pos, pow_succ] <;> omega

theorem counterValue_inc {B : Buffer} {lo hi : Nat} (hle : lo ≤ hi) (hb : hi ≤ 729) (hu : UniformCells B lo hi) :
    counterValue (inc B lo hi).2 (hi - lo) lo + (if (inc B lo hi).1 then 3 ^ (hi - lo) else 0) =
      counterValue B (hi - lo) lo + 1 := by
  rw [inc]
  exact counterValue_incCells _ _ _ (by omega) (by rwa [Nat.add_sub_cancel' hle])

/-- Settles O35: Inc adds one modulo 3^L, and the bounds of the value say when the carry goes out. -/
theorem incCountsOne : Obligations.IncCountsOne := by
  intro B lo hi hle hb hu
  refine ⟨uniformCells_inc hb hu hu, fun i hi' => getCell_inc_of_notMem B (by omega), ?_⟩
  have hstep := counterValue_inc hle hb hu
  have hmax := two_mul_counterMax (hi - lo)
  obtain ⟨-, hbefore⟩ := counterValue_bounds B (hi - lo) lo
  obtain ⟨hlow, hhigh⟩ := counterValue_bounds (inc B lo hi).2 (hi - lo) lo
  cases hov : (inc B lo hi).1 <;> simp only [hov, if_true, Bool.false_eq_true, if_false] at hstep
  · rw [if_pos (by omega)]
    exact ⟨by omega, rfl⟩
  · rw [if_neg (by omega)]
    exact ⟨by omega, rfl⟩

/-! ### Consecutive Incs -/

/-- Consecutive Incs keep digits digits, everywhere. -/
theorem uniformCells_incRun {lo hi a b : Nat} (hb : hi ≤ 729) (k : Nat) {B : Buffer} (h : UniformCells B lo hi)
    (hab : UniformCells B a b) : UniformCells (incRun k B lo hi).2 a b := by
  induction k generalizing B with
  | zero => exact hab
  | succ k ih => exact ih (uniformCells_inc hb h h) (uniformCells_inc hb h hab)

theorem getCell_incRun_of_notMem (k : Nat) (B : Buffer) {lo hi j : Nat} (h : ¬ (lo ≤ j ∧ j < hi)) :
    getCell (incRun k B lo hi).2 j = getCell B j := by
  induction k generalizing B with
  | zero => rfl
  | succ k ih => exact (ih _).trans (getCell_inc_of_notMem B h)

/-- k Incs add k, each overflow taking off 3^L (42_nonce_search.md R154). -/
theorem counterValue_incRun {lo hi : Nat} (hle : lo ≤ hi) (hb : hi ≤ 729) (k : Nat) {B : Buffer}
    (hu : UniformCells B lo hi) :
    counterValue (incRun k B lo hi).2 (hi - lo) lo + 3 ^ (hi - lo) * ((incRun k B lo hi).1 : Int) =
      counterValue B (hi - lo) lo + k := by
  induction k generalizing B with
  | zero => simp [incRun]
  | succ k ih =>
    have hstep := counterValue_inc hle hb hu
    have hrun := ih (uniformCells_inc hb hu hu)
    rw [incRun]
    push_cast
    split_ifs at hstep ⊢ <;> linarith

/-- Settles O36: after 3^L Incs the value is 3^L minus 3^L per overflow away from its start, and two values of L digits
are less than 3^L apart. -/
theorem incPeriodHasOneOverflow : Obligations.IncPeriodHasOneOverflow := by
  intro B lo hi hle hb hu
  have hrun := counterValue_incRun hle hb (3 ^ (hi - lo)) hu
  have hmax := two_mul_counterMax (hi - lo)
  obtain ⟨hlow, hhigh⟩ := counterValue_bounds B (hi - lo) lo
  obtain ⟨hlow', hhigh'⟩ := counterValue_bounds (incRun (3 ^ (hi - lo)) B lo hi).2 (hi - lo) lo
  push_cast at hrun
  have hone : (incRun (3 ^ (hi - lo)) B lo hi).1 = 1 := by
    have hpos : (0 : Int) < 3 ^ (hi - lo) := by positivity
    have habove : (0 : Int) < (incRun (3 ^ (hi - lo)) B lo hi).1 := by nlinarith
    have hbelow : ((incRun (3 ^ (hi - lo)) B lo hi).1 : Int) < 2 := by nlinarith
    omega
  rw [hone, Nat.cast_one, mul_one] at hrun
  refine Prod.ext hone (buffer_ext fun j _ => ?_)
  by_cases hj : lo ≤ j ∧ j < hi
  · refine getCell_eq_of_counterValue_eq (lo := lo) (len := hi - lo) ?_ ?_ (by linarith) hj.1 (by omega) <;>
      rw [Nat.add_sub_cancel' hle]
    · exact uniformCells_incRun hb _ hu hu
    · exact hu
  · exact getCell_incRun_of_notMem _ B hj

/-! ### The Incs of a start, their overflow ignored (42_nonce_search.md R180) -/

theorem incTimes_eq_incRun (k : Nat) (B : Buffer) (lo hi : Nat) : incTimes k B lo hi = (incRun k B lo hi).2 := by
  induction k generalizing B with
  | zero => rfl
  | succ k ih => exact ih _

/-- Fewer than 3^L Incs apart, the counters hold different digits (42_nonce_search.md R163). -/
theorem exists_getCell_incTimes_ne {B : Buffer} {lo hi v w : Nat} (hle : lo ≤ hi) (hb : hi ≤ 729)
    (hu : UniformCells B lo hi) (hvw : v < w) (hw : w < 3 ^ (hi - lo)) :
    ∃ k, lo ≤ k ∧ k < hi ∧ getCell (incTimes v B lo hi) k ≠ getCell (incTimes w B lo hi) k := by
  by_contra hsame
  push Not at hsame
  have hv : counterValue (incTimes v B lo hi) (hi - lo) lo = counterValue (incTimes w B lo hi) (hi - lo) lo :=
    counterValue_congr fun j hj1 hj2 => hsame j hj1 (by omega)
  rw [incTimes_eq_incRun, incTimes_eq_incRun] at hv
  have hrunv := counterValue_incRun hle hb v hu
  have hrunw := counterValue_incRun hle hb w hu
  have hdvd : (3 ^ (hi - lo) : Int) ∣ w - v :=
    ⟨(incRun w B lo hi).1 - (incRun v B lo hi).1, by rw [mul_sub]; linarith⟩
  have hw' : (w : Int) < 3 ^ (hi - lo) := by exact_mod_cast hw
  have := Int.le_of_dvd (by omega) hdvd
  omega

/-! ### INCREMENT (42_nonce_search.md R155) -/

/-- Settles O37: the range and the digits pass INCREMENT's own checks. -/
theorem incrementWritesOvf : Obligations.IncrementWritesOvf := by
  intro s lo hi hidle hmid hle hb hu
  have hrange : (decide (hi < lo) || decide (729 < hi)) = false :=
    Bool.or_eq_false_iff.mpr ⟨decide_eq_false (by omega), decide_eq_false (by omega)⟩
  have hcells : (!uniformRange s.mid lo hi) = false := congrArg not (uniformRange_iff_uniformCells.mpr hu)
  exact runCommand_ready_accepted hidle hmid
    ((firstError_cons_of_false hrange _ _).trans (firstError_cons_of_false hcells _ _)) (incrementMid lo hi)

end Sys2Proof.Machine
end

section
/-! PROOF. The search commands: what they check, in their order, and the workers that they start; and CANCEL. -/

namespace Sys2Proof.Machine

open Sys2Proof.Safety

/-! ### ResolveWorkers (42_nonce_search.md R173) -/

theorem resolveWorkers_eq_none_iff {s : State} : resolveWorkers s = none ↔ s.params.nwMax < s.nworkers.toNat := by
  unfold resolveWorkers
  split_ifs with h0 hmax
  · simp [h0]
  · simp [hmax]
  · simp [hmax]

theorem resolveWorkers_eq_some_iff {s : State} {n : Nat} : resolveWorkers s = some n ↔ ResolvedCount s n := by
  unfold resolveWorkers ResolvedCount
  split_ifs with h0 hmax
  · simp [h0, eq_comm]
  · simp only [h0, ne_eq, false_and, not_false_eq_true, true_and, false_or, false_iff]
    omega
  · simp only [h0, ne_eq, Option.some.injEq, not_false_eq_true, false_and, true_and, false_or]
    omega

/-- R177's check speaks of the one count that ResolveWorkers gives. -/
theorem partitionTooSmall_iff {s : State} (h : resolveWorkers s ≠ none) :
    partitionTooSmall ((resolveWorkers s).getD 0) s = true ↔
      ∀ n, ResolvedCount s n → 3 ^ (s.partHi.toNat - s.partLo.toNat) < n := by
  obtain ⟨n, hn⟩ := Option.ne_none_iff_exists'.mp h
  simp [← resolveWorkers_eq_some_iff, hn, partitionTooSmall]

/-! ### The checks of SEARCH_NONCE (42_nonce_search.md R170 to R178) -/

/-- Two neighbouring checks with one code are one check. -/
theorem firstError_cons_cons_same (b b' : Bool) (e : ErrCode) (cs : List (Bool × ErrCode)) :
    firstError ((b, e) :: (b', e) :: cs) = firstError ((b || b', e) :: cs) := by
  cases b <;> rfl

/-- One of the four checks of SEARCH_NONCE that give ERR_RANGE fails (42_nonce_search.md R172 to R175). -/
def nonceRangeFails (s : State) : Bool :=
  decide (Config.hashLength < s.mwm.toNat) || (resolveWorkers s).isNone || !nonceLayout s || rangesOverlap s

theorem nonceRangeFails_iff {s : State} :
    nonceRangeFails s = true ↔
      243 < s.mwm.toNat ∨ s.params.nwMax < s.nworkers.toNat ∨
      ¬ (s.partLo.toNat ≤ s.partHi.toNat ∧ s.partHi.toNat ≤ 243 ∧ s.iterLo.toNat < s.iterHi.toNat ∧
        s.iterHi.toNat ≤ 243) ∨
      (s.partLo.toNat < s.partHi.toNat ∧ s.partLo.toNat < s.iterHi.toNat ∧ s.iterLo.toNat < s.partHi.toNat) := by
  simp only [nonceRangeFails, nonceLayout, rangesOverlap, Bool.or_eq_true, Bool.not_eq_true',
    Bool.and_eq_false_iff, Bool.and_eq_true, decide_eq_true_eq, decide_eq_false_iff_not, Option.isNone_iff_eq_none,
    resolveWorkers_eq_none_iff, Nat.not_le, Nat.not_lt]
  simp only [Config.hashLength]
  omega

theorem resolveWorkers_ne_none {s : State} (h : nonceRangeFails s = false) : resolveWorkers s ≠ none := by
  intro hnone
  simp [nonceRangeFails, hnone] at h

/-- The partition or the iteration range holds a cell that is no digit (42_nonce_search.md R178). -/
def nonceCellsMixed (s : State) : Bool :=
  !uniformRange s.mid s.partLo.toNat s.partHi.toNat || !uniformRange s.mid s.iterLo.toNat s.iterHi.toNat

theorem nonceCellsMixed_iff {s : State} :
    nonceCellsMixed s = true ↔
      ¬ (UniformCells s.mid s.partLo.toNat s.partHi.toNat ∧ UniformCells s.mid s.iterLo.toNat s.iterHi.toNat) := by
  rw [nonceCellsMixed, ← Bool.not_and, Bool.not_eq_true', ← Bool.not_eq_true, Bool.and_eq_true,
    uniformRange_iff_uniformCells, uniformRange_iff_uniformCells]

/-- On a ready device SEARCH_NONCE has four checks, one for each error code. -/
theorem firstError_nonceChecks {s : State} (hidle : s.active = 0) (hmid : s.midValid = true) :
    firstError (nonceChecks s) =
      firstError
        [(nonceRangeFails s, .range), (decide (s.absTotal.toNat ≠ s.params.transactionLength), .length),
         (partitionTooSmall ((resolveWorkers s).getD 0) s, .partition), (nonceCellsMixed s, .nonUniform)] := by
  rw [nonceChecks, firstError_readyChecks_append hidle hmid, firstError_cons_cons_same, firstError_cons_cons_same,
    firstError_cons_cons_same]
  rfl

/-- Settles O39: of the four checks the first that fails decides. -/
theorem searchNonceRejections : Obligations.SearchNonceRejections := by
  intro s hidle hmid range length partition mixed
  have hrange : nonceRangeFails s = true ↔ range := nonceRangeFails_iff
  have hmixed : nonceCellsMixed s = true ↔ mixed := nonceCellsMixed_iff
  have hchecks := firstError_nonceChecks hidle hmid
  have reject {e : ErrCode} (h : firstError (nonceChecks s) = some e) :
      exec .searchNonce s = .next { s with err := e } := runCommand_rejected _ s h
  refine ⟨fun hr => reject ?_, fun hr hl => reject ?_, fun hr hl hp => reject ?_, fun hr hl hp hm => reject ?_⟩ <;>
    rw [hchecks]
  · exact firstError_cons_of_true (hrange.mpr hr) _ _
  all_goals
    have hr' : nonceRangeFails s = false := Bool.eq_false_iff.mpr (mt hrange.mp hr)
    have hpart := partitionTooSmall_iff (resolveWorkers_ne_none hr')
    rw [firstError_cons_of_false hr']
  · exact firstError_cons_of_true (decide_eq_true hl) _ _
  · rw [firstError_cons_of_false (decide_eq_false hl)]
    exact firstError_cons_of_true (hpart.mpr hp) _ _
  · rw [firstError_cons_of_false (decide_eq_false hl),
      firstError_cons_of_false (Bool.eq_false_iff.mpr (mt hpart.mp hp))]
    exact firstError_cons_of_true (hmixed.mpr hm) _ _

/-! ### The workers that a search starts (42_nonce_search.md R180) -/

/-- Worker w after a start. -/
theorem getD_spawn (n : Nat) (c : Snap) (mid : Buffer) {ws : List Worker} {w : Nat} (hw : w < ws.length) :
    (spawn n c mid ws).getD w Worker.blank =
      if w < n then spawnWorker c mid w (ws.getD w Worker.blank) else ws.getD w Worker.blank := by
  simp [spawn, hw]

theorem spawned_spawn (m : Mode) (n : Nat) (s : State) : Spawned s n (spawn n (takeSnap m n s) s.mid s.workers) :=
  ⟨spawn_length _ _ _ _, fun w hw => getD_spawn n (takeSnap m n s) s.mid (by simpa using hw)⟩

/-- Settles O38: the hypotheses pass the four checks, and the count is the one that ResolveWorkers gives. -/
theorem searchNonceStarts : Obligations.SearchNonceStarts := by
  intro s n hidle hmid hmwm hcount hple hphi hilt hihi hdisjoint hlength hfits hpart hiter
  have hres := resolveWorkers_eq_some_iff.mpr hcount
  have hrange : nonceRangeFails s = false := by
    have hmax : ¬ s.params.nwMax < s.nworkers.toNat := fun h => by simp [resolveWorkers_eq_none_iff.mpr h] at hres
    refine Bool.eq_false_iff.mpr (mt nonceRangeFails_iff.mp ?_)
    omega
  have hsmall : partitionTooSmall ((resolveWorkers s).getD 0) s = false := by
    rw [hres, Option.getD_some]
    exact decide_eq_false (Nat.not_lt.mpr hfits)
  have hmixed : nonceCellsMixed s = false := Bool.eq_false_iff.mpr fun h => nonceCellsMixed_iff.mp h ⟨hpart, hiter⟩
  have haccept : exec .searchNonce s = .next ((startSearch .nonce ((resolveWorkers s).getD 0) s).withErr .ok) := by
    refine runCommand_accepted _ s ?_
    rw [firstError_nonceChecks hidle hmid, firstError_cons_of_false hrange,
      firstError_cons_of_false (decide_eq_false (not_not.mpr hlength)), firstError_cons_of_false hsmall,
      firstError_cons_of_false hmixed]
    rfl
  rw [hres, Option.getD_some] at haccept
  exact ⟨_, haccept, spawned_spawn .nonce n s⟩

/-! ### What an accepted search command has checked, in both modes -/

/-- The ranges that a search increments hold digits (42_nonce_search.md R178, 43_checksum.md R193). -/
def SearchDigits (c : Snap) (B : Buffer) : Prop :=
  UniformCells B c.partLo c.partHi ∧
  UniformCells B c.iterLo (match c.mode with | .nonce => c.iterHi | .checksum => 243)

/-- The search that starts in mode m with n workers has a good layout, a partition value for each worker, and digits in
its ranges. -/
structure StartOk (m : Mode) (s : State) (n : Nat) : Prop where
  resolved : resolveWorkers s = some n
  snap : SnapOk (takeSnap m n s)
  fits : n ≤ 3 ^ (s.partHi.toNat - s.partLo.toNat)
  digits : SearchDigits (takeSnap m n s) s.mid

theorem searchChecks_startOk {m : Mode} {s : State} (h : firstError (searchChecks m s) = none) :
    ∃ n, StartOk m s n := by
  obtain ⟨n, hn⟩ := searchChecks_workers h
  have hall := (firstError_eq_none_iff _).mp h
  refine ⟨n, ?_⟩
  cases m with
  | nonce =>
    simp [searchChecks, nonceChecks, readyChecks, hn, uniformRange_iff_uniformCells, nonceLayout,
      partitionTooSmall] at hall
    obtain ⟨-, -, hmwm, ⟨⟨⟨hple, hphi⟩, hilt⟩, hihi⟩, -, -, hfits, hpart, hiter⟩ := hall
    exact ⟨hn, ⟨hmwm, hple, hphi, hilt, hihi⟩, hfits, hpart, hiter⟩
  | checksum =>
    simp [searchChecks, checksumChecks, readyChecks, hn, uniformRange_iff_uniformCells, checksumLayout,
      partitionTooSmall] at hall
    obtain ⟨-, -, ⟨⟨⟨⟨⟨⟨hlen, hend⟩, hbase⟩, hple⟩, hphi⟩, hilt⟩, hsum⟩, hfits, hpart, hiter⟩ := hall
    exact ⟨hn, ⟨hlen, hend, hbase, hple, hphi, hilt, hsum⟩, hfits, hpart, hiter⟩

/-- Both layouts keep the partition inside the rate. -/
theorem snapOk_partition {c : Snap} (h : SnapOk c) : c.partLo ≤ c.partHi ∧ c.partHi ≤ 243 := by
  unfold SnapOk at h
  split at h <;> omega

/-! ### Distinct partition values (42_nonce_search.md R163) -/

/-- A command that ends with ERR_OK was accepted, where no check gives that code. -/
theorem runCommand_of_err_ok {cs : List (Bool × ErrCode)} {f : State → State} {s t : State}
    (hcs : ∀ x ∈ cs, x.2 ≠ .ok) (h : runCommand cs f s = .next t) (hok : t.err = .ok) :
    firstError cs = none ∧ t = (f s).withErr .ok := by
  rcases runCommand_next h with ⟨e, he, rfl⟩ | haccept
  · exact absurd hok (hcs _ (firstError_mem he))
  · exact haccept

theorem searchChecks_ne_ok (m : Mode) (s : State) : ∀ x ∈ searchChecks m s, x.2 ≠ .ok := by
  cases m <;> simp [searchChecks, nonceChecks, checksumChecks, readyChecks]

/-- The two search commands differ in their mode alone. -/
theorem exec_search {i : Instr} (hi : i = .searchNonce ∨ i = .searchChecksum) (s : State) :
    ∃ m, exec i s = runCommand (searchChecks m s) (startSearch m ((resolveWorkers s).getD 0)) s := by
  rcases hi with rfl | rfl
  · exact ⟨.nonce, rfl⟩
  · exact ⟨.checksum, rfl⟩

/-- The pre-transform state of a worker that a search has started (42_nonce_search.md R180). -/
theorem startSearch_worker_pre (m : Mode) {n w : Nat} {s : State} (hn : w < n) (hw : w < s.workers.length) :
    ((startSearch m n s).worker w).pre = incTimes w s.mid s.partLo.toNat s.partHi.toNat :=
  congrArg Worker.pre ((getD_spawn n (takeSnap m n s) s.mid hw).trans (if_pos hn))

/-- Settles O42: the partition has a value for each worker, and fewer than 3^L Incs lie between two of them. -/
theorem workersStartDistinct : Obligations.WorkersStartDistinct := by
  intro i s t hi hlen hmax h hok v w hvw hw
  obtain ⟨m, hexec⟩ := exec_search hi s
  obtain ⟨hchecks, rfl⟩ := runCommand_of_err_ok (searchChecks_ne_ok m s) (hexec.symm.trans h) hok
  obtain ⟨n, hstart⟩ := searchChecks_startOk hchecks
  rw [hstart.resolved, Option.getD_some] at hw ⊢
  have hwn : w < n := hw
  have hwlen : w < s.workers.length := hlen ▸ hwn.trans_le (resolveWorkers_bounds hmax hstart.resolved).2
  obtain ⟨hple, hphi⟩ := snapOk_partition hstart.snap
  obtain ⟨k, hlo, hhi, hne⟩ := exists_getCell_incTimes_ne hple (hphi.trans (by decide)) hstart.digits.1 hvw
    (hwn.trans_le hstart.fits)
  refine ⟨k, hlo, hhi, ?_⟩
  rw [State.withErr_worker, State.withErr_worker, startSearch_worker_pre m (hvw.trans hwn) (hvw.trans hwlen),
    startSearch_worker_pre m hwn hwlen]
  exact hne

/-! ### CANCEL (42_nonce_search.md R186) -/

theorem exec_cancel (s : State) : exec .cancel s = .next ((cancelSearch s).withErr .ok) := rfl

/-- Settles O43: CANCEL has no check, and its effect is a case split on FLAG. -/
theorem cancelStopsRunningSearch : Obligations.CancelStopsRunningSearch := by
  intro s
  constructor <;> intro hf <;> rw [exec_cancel, cancelSearch]
  · rw [if_pos hf]; rfl
  · rw [if_neg hf]; rfl

end Sys2Proof.Machine
end

section
/-! PROOF. Every move keeps the digits of the running workers. -/

namespace Sys2Proof.Machine

open Sys2Proof.Safety

/-! ### A worker's digits -/

/-- A checksum worker's length lies between its start and the end of the rate (43_checksum.md R209). -/
def LengthOk (c : Snap) (ck : Nat) : Prop := c.mode = .checksum → c.targetLength ≤ ck ∧ c.ckBase + ck ≤ 243

theorem workerDigits_iff {c : Snap} {W : Worker} : WorkerDigits c W ↔ SearchDigits c W.pre ∧ LengthOk c W.ck := by
  unfold WorkerDigits SearchDigits LengthOk
  cases c.mode <;> simp [and_assoc]

/-- Inc over a range of digits in the rate keeps the digits of a search (42_nonce_search.md R153). -/
theorem SearchDigits.inc {c : Snap} {B : Buffer} {lo hi : Nat} (h : SearchDigits c B) (hb : hi ≤ 243)
    (hu : UniformCells B lo hi) : SearchDigits c (inc B lo hi).2 :=
  have hb' : hi ≤ 729 := hb.trans (by decide)
  ⟨uniformCells_inc hb' hu h.1, uniformCells_inc hb' hu h.2⟩

/-- The Incs over the partition at a start keep the digits of the search (42_nonce_search.md R180). -/
theorem SearchDigits.incTimes {c : Snap} (hc : SnapOk c) (k : Nat) {B : Buffer} (h : SearchDigits c B) :
    SearchDigits c (incTimes k B c.partLo c.partHi) := by
  induction k generalizing B with
  | zero => exact h
  | succ k ih => exact ih (h.inc (snapOk_partition hc).2 h.1)

theorem snapOk_iterHi_le {c : Snap} (hc : SnapOk c) (hm : c.mode = .nonce) : c.iterHi ≤ 243 := by
  simp only [SnapOk, hm] at hc
  omega

/-- The iteration Inc of a nonce worker (42_nonce_search.md R183). -/
theorem SearchDigits.incNonce {c : Snap} {B : Buffer} (hc : SnapOk c) (hm : c.mode = .nonce)
    (h : SearchDigits c B) : SearchDigits c (Machine.inc B c.iterLo c.iterHi).2 :=
  h.inc (snapOk_iterHi_le hc hm) (by simpa [hm] using h.2)

/-- The iteration Inc of a checksum worker ends inside the rate (43_checksum.md R196, R209). -/
theorem SearchDigits.checksumInc {c : Snap} {W : Worker} (hm : c.mode = .checksum) (h : SearchDigits c W.pre)
    (hck : LengthOk c W.ck) : SearchDigits c (checksumInc c W).2 :=
  h.inc (hck hm).2 (uniformCells_mono h.2 le_rfl (by simpa [hm] using (hck hm).2))

/-- A widening stays inside the rate (43_checksum.md R196). -/
theorem LengthOk.widen {c : Snap} {ck : Nat} (h : LengthOk c ck) : LengthOk c (widen c ck) := by
  intro hm
  obtain ⟨hlow, hhigh⟩ := h hm
  simp only [Machine.widen, Config.ckStep, Config.hashLength]
  omega

/-! ### What a test of the predicate leaves of a worker (42_nonce_search.md R183) -/

section AfterTest

variable (W : Worker) (S : Buffer) (mask : Buffer → Word) (onHit : Phase)

/-- The tested buffer is the Transform of the advanced state, whatever the engine held; its mask decides the hit lane
and the phase. -/
theorem afterTest_eq :
    afterTest W S mask onHit =
      { W with
        pre := S, work := transform S, engine := (runTransform W.engine S).1,
        hit := if mask (transform S) = 0#64 then W.hit else lowestLane (mask (transform S)),
        phase := if mask (transform S) = 0#64 then .check else onHit } := by
  rw [← runTransform_snd_eq_transform W.engine S]
  unfold afterTest
  dsimp only
  split <;> rfl

@[simp] theorem afterTest_pre : (afterTest W S mask onHit).pre = S := by rw [afterTest_eq]

@[simp] theorem afterTest_work : (afterTest W S mask onHit).work = transform S := by rw [afterTest_eq]

@[simp] theorem afterTest_ck : (afterTest W S mask onHit).ck = W.ck := by rw [afterTest_eq]

@[simp] theorem afterTest_request : (afterTest W S mask onHit).request = W.request := by rw [afterTest_eq]

@[simp] theorem afterTest_response : (afterTest W S mask onHit).response = W.response := by rw [afterTest_eq]

/-- A hit is the lowest lane of the mask; without one the worker is back in Check with its old hit. -/
theorem afterTest_cases :
    (mask (transform S) ≠ 0#64 ∧ (afterTest W S mask onHit).phase = onHit ∧
      (afterTest W S mask onHit).hit = lowestLane (mask (transform S))) ∨
    (mask (transform S) = 0#64 ∧ (afterTest W S mask onHit).phase = .check ∧
      (afterTest W S mask onHit).hit = W.hit) := by
  rw [afterTest_eq]
  by_cases h : mask (transform S) = 0#64
  · exact .inr ⟨h, if_pos h, if_pos h⟩
  · exact .inl ⟨h, if_neg h, if_neg h⟩

end AfterTest

@[simp] theorem sendVerify_pre (c : Snap) (w : Nat) (W : Worker) : (sendVerify c w W).pre = W.pre := by
  unfold sendVerify; split <;> rfl

@[simp] theorem sendVerify_ck (c : Snap) (w : Nat) (W : Worker) : (sendVerify c w W).ck = W.ck := by
  unfold sendVerify; split <;> rfl

theorem workerDigits_iterateNonce {c : Snap} {W : Worker} (hc : SnapOk c) (hm : c.mode = .nonce)
    (h : WorkerDigits c W) : WorkerDigits c (iterateNonce c W) := by
  obtain ⟨hdigits, hck⟩ := workerDigits_iff.mp h
  rw [workerDigits_iff, iterateNonce, afterTest_pre, afterTest_ck]
  exact ⟨hdigits.incNonce hc hm, hck⟩

theorem workerDigits_iterateChecksum {c : Snap} {W : Worker} (w : Nat) (hm : c.mode = .checksum)
    (h : WorkerDigits c W) : WorkerDigits c (iterateChecksum c w W) := by
  obtain ⟨hdigits, hck⟩ := workerDigits_iff.mp h
  rw [workerDigits_iff, iterateChecksum, sendVerify_pre, sendVerify_ck, afterTest_pre, afterTest_ck]
  refine ⟨hdigits.checksumInc hm hck, ?_⟩
  dsimp only
  split
  · exact hck.widen
  · exact hck

/-- The result of a win has at most the rate's length (42_nonce_search.md R160, 43_checksum.md R209). -/
theorem resultCodes_length_le {c : Snap} {W : Worker} (h : WorkerDigits c W) : (resultCodes c W).length ≤ 243 := by
  obtain ⟨-, hck⟩ := workerDigits_iff.mp h
  unfold resultCodes
  split
  · simp [laneCodes, Config.hashLength]
  · rename_i hm
    have hend := (hck hm).2
    simp only [candidate, laneCodes, List.length_map, List.length_range]
    omega

end Sys2Proof.Machine

namespace Sys2Proof.Safety

open Sys2Proof.Machine

namespace Digits

/-- Digits speaks of the search state alone. -/
theorem of_kept {s t : State} (hd : Digits s) (h : SearchKept s t) : Digits t where
  snap_ok := by rw [h.active, h.snap]; exact hd.snap_ok
  workers_ok := by rw [h.workers, h.snap]; exact hd.workers_ok
  resultLen_le := by rw [h.resultLen]; exact hd.resultLen_le

theorem worker {s : State} (hd : Digits s) {w : Nat} (h : (s.worker w).phase ≠ .off) :
    WorkerDigits s.snap (s.worker w) :=
  hd.workers_ok _ (State.worker_mem h) h

theorem withWorker {s : State} (hd : Digits s) (w : Nat) {W : Worker} (hW : W.phase ≠ .off → WorkerDigits s.snap W) :
    Digits (s.withWorker w W) where
  snap_ok := hd.snap_ok
  workers_ok := fun V hV => (List.mem_or_eq_of_mem_set hV).elim (hd.workers_ok V) (· ▸ hW)
  resultLen_le := hd.resultLen_le

/-- A worker that stops needs no digits any more. -/
theorem stopWorker {s : State} (hd : Digits s) (w : Nat) : Digits (stopWorker w s) where
  snap_ok := fun h => hd.snap_ok (h.trans_le (Nat.sub_le _ _))
  workers_ok := (hd.withWorker w (W := { s.worker w with phase := .off }) fun h => absurd rfl h).workers_ok
  resultLen_le := hd.resultLen_le

theorem winSearch {s : State} (hd : Digits s) {w : Nat} (h : (s.worker w).phase ≠ .off) : Digits (winSearch w s) where
  snap_ok := hd.snap_ok
  workers_ok := hd.workers_ok
  resultLen_le := resultCodes_length_le (hd.worker h)

theorem iterateStep {s : State} (hs : Shape s) (hd : Digits s) {w : Nat} (h : (s.worker w).phase = .iterate) :
    Digits (iterateStep w s) := by
  have hon : (s.worker w).phase ≠ .off := by simp [h]
  have hW := hd.worker hon
  unfold Machine.iterateStep
  split
  · rename_i hm
    exact hd.withWorker w fun _ => workerDigits_iterateNonce (hd.snap_ok (hs.active_pos hon)) hm hW
  · rename_i hm
    split
    · obtain ⟨hdigits, hck⟩ := workerDigits_iff.mp hW
      have hwrapped : WorkerDigits s.snap { s.worker w with pre := (checksumInc s.snap (s.worker w)).2 } :=
        workerDigits_iff.mpr ⟨hdigits.checksumInc hm hck, hck⟩
      exact (hd.withWorker w fun _ => hwrapped).stopWorker w
    · exact hd.withWorker w fun _ => workerDigits_iterateChecksum w hm hW

theorem workerStep {s : State} (hs : Shape s) (hd : Digits s) (w : Nat) : Digits (workerStep w s) := by
  unfold Machine.workerStep
  split
  · exact hd
  · rename_i h
    unfold checkStep
    split
    · exact hd.withWorker w fun _ => hd.worker (w := w) (by simp [h])
    · exact hd.stopWorker w
  · rename_i h; exact hd.iterateStep hs h
  · rename_i h
    unfold verifyStep
    split
    · exact hd
    · exact hd.withWorker w fun _ => hd.worker (w := w) (by simp [h])
  · rename_i h
    unfold claimStep
    split
    · exact (hd.winSearch (by simp [h])).stopWorker w
    · exact hd.stopWorker w

theorem takeVerifyRsp {s : State} (hd : Digits s) (w : Nat) (accept : Bool) : Digits (takeVerifyRsp w accept s) := by
  rcases takeVerifyRsp_cases w accept s with h | ⟨hp, -, h⟩ <;> rw [h]
  · exact hd
  · exact hd.withWorker w fun hon => hd.worker (w := w) hon

/-- A search starts with its own accepted configuration, on a device without running workers (42_nonce_search.md
R178 to R180, 43_checksum.md R193). -/
theorem startSearch {s : State} (hs : Shape s) {m : Mode} (h : firstError (searchChecks m s) = none) :
    Digits (startSearch m ((resolveWorkers s).getD 0) s) := by
  obtain ⟨n, hstart⟩ := searchChecks_startOk h
  have hoff : activeCount s.workers = 0 := hs.active_eq.symm.trans (searchChecks_ready h).1
  have hck : LengthOk (takeSnap m n s) s.targetLength.toNat := by
    rintro rfl
    exact ⟨le_rfl, hstart.snap.2.1⟩
  rw [hstart.resolved, Option.getD_some]
  exact
    { snap_ok := fun _ => hstart.snap
      workers_ok := fun W hW hon => by
        obtain ⟨V, hV, rfl | ⟨w, rfl⟩⟩ := mem_spawn hW
        · exact absurd (activeCount_eq_zero.mp hoff W hV) hon
        · exact workerDigits_iff.mpr ⟨hstart.digits.incTimes hstart.snap w, hck⟩
      resultLen_le := Nat.zero_le 243 }

theorem cancelSearch {s : State} (hd : Digits s) : Digits (cancelSearch s) :=
  ⟨hd.snap_ok, hd.workers_ok, hd.resultLen_le⟩

/-- After reset no worker runs. -/
theorem resetOf (p : Params) : Digits (State.resetOf p) where
  snap_ok := nofun
  workers_ok := fun W hW hon => absurd (by rw [List.eq_of_mem_replicate hW]; rfl) hon
  resultLen_le := Nat.zero_le 243

theorem assertRst (s : State) : Digits (assertRst s) :=
  ⟨(resetOf s.params).snap_ok, (resetOf s.params).workers_ok, (resetOf s.params).resultLen_le⟩

/-- Every move keeps the digits. -/
theorem searchMove {s t : State} (hs : Shape s) (hd : Digits s) (h : SearchMove s t) : Digits t := by
  cases h with
  | quiet h => exact hd.of_kept h
  | start m hr h => exact (startSearch hs h).of_kept (.withErr _ _)
  | cancel => exact hd.cancelSearch.of_kept (.withErr _ _)
  | worker w => exact hd.workerStep hs w
  | answer w accept => exact hd.takeVerifyRsp w accept
  | reset => exact assertRst s

end Digits

end Sys2Proof.Safety

namespace Sys2Proof.Machine

open Sys2Proof.Safety

/-- Settles O56: every step is a move, and each of the six kinds of move keeps the digits. -/
theorem stepKeepsDigits : Obligations.StepKeepsDigits := by
  intro s t hs hd h
  obtain ⟨rest, hmove⟩ := step_searchMove h
  exact (hd.of_kept (.withInputs s rest)).searchMove (hs.of_kept (.withInputs s rest)) hmove

end Sys2Proof.Machine
end

section
/-! PROOF. The steps of a worker: Check, Iterate in nonce mode, Claim; and what each agent leaves alone. -/

namespace Sys2Proof.Machine

open Sys2Proof.Safety

/-! ### The step of a worker's move -/

theorem step_worker {s : State} {w : Nat} {rest : List Input} (hr : s.rst = false)
    (hi : s.inputs = .worker w :: rest) : step s = .next (workerStep w (s.withInputs rest)) :=
  step_eq_runInput hr hi

section Phases

variable {s : State} {w : Nat}

theorem workerStep_off (h : (s.worker w).phase = .off) : workerStep w s = s := by rw [workerStep, h]

theorem workerStep_check (h : (s.worker w).phase = .check) : workerStep w s = checkStep w s := by rw [workerStep, h]

theorem workerStep_iterate (h : (s.worker w).phase = .iterate) : workerStep w s = iterateStep w s := by
  rw [workerStep, h]

theorem workerStep_claim (h : (s.worker w).phase = .claim) : workerStep w s = claimStep w s := by rw [workerStep, h]

end Phases

/-- A stop that finds FLAG not Running leaves it (42_nonce_search.md R185). -/
theorem stopWorker_of_not_running {s : State} (w : Nat) (h : s.flag ≠ .running) :
    stopWorker w s =
      { s with
        workers := s.workers.set w { s.worker w with phase := .off }, active := s.active - 1,
        done := if s.active - 1 = 0 then true else s.done } := by
  rw [stopWorker, if_neg fun hx => h hx.2]
  rfl

/-- Settles O44: Check is a case split on FLAG. -/
theorem checkStepObeysFlag : Obligations.CheckStepObeysFlag := by
  intro s w rest hr _ hp hi
  have hstep : step s = .next (checkStep w (s.withInputs rest)) :=
    (step_worker hr hi).trans (congrArg _ (workerStep_check (s := s.withInputs rest) hp))
  rw [hstep, checkStep]
  constructor <;> intro hf
  · rw [if_pos (show (s.withInputs rest).flag = .running from hf)]
    rfl
  · have hf' : (s.withInputs rest).flag ≠ .running := hf
    rw [if_neg hf', stopWorker_of_not_running w hf']
    rfl

/-! ### The difficulty mask and its lowest lane (42_nonce_search.md R156, R159) -/

theorem getLsbD_foldl_and (l : List Nat) (f : Nat → Word) (m : Word) (b : Nat) :
    (l.foldl (fun m i => m &&& f i) m).getLsbD b = true ↔ m.getLsbD b = true ∧ ∀ i ∈ l, (f i).getLsbD b = true := by
  induction l generalizing m with
  | nil => simp
  | cons i l ih => simp [ih, and_assoc]

/-- Lane b of the mask: its pairs are equal at the final mwm hash cells. -/
theorem getLsbD_nonceMask (T : Buffer) (mwm : Nat) {b : Nat} (hb : b < 64) :
    (nonceMask T mwm).getLsbD b = true ↔
      ∀ i, 243 - mwm ≤ i → i < 243 → (getCell T i).L.getLsbD b = (getCell T i).H.getLsbD b := by
  have hall : all1.getLsbD b = true := by rw [all1, BitVec.getLsbD_allOnes]; exact decide_eq_true hb
  rw [nonceMask, getLsbD_foldl_and, hall, eq_self_iff_true, true_and]
  simp only [Config.hashLength, List.mem_range'_1, BitVec.getLsbD_not, BitVec.getLsbD_xor, hb, decide_true,
    Bool.true_and, Bool.not_eq_true', bne_eq_false_iff_eq]
  exact ⟨fun h i hi1 hi2 => h i ⟨hi1, by omega⟩, fun h i hi' => h i hi'.1 (by omega)⟩

/-- A lane code with equal bits is the trit 0, where it is a trit at all. -/
theorem laneCode_eq_zero_iff {c : Cell} {b : Nat} (h : laneCode c b ≠ 0b00#2) :
    laneCode c b = codeOf .zero ↔ c.L.getLsbD b = c.H.getLsbD b := by
  revert h
  unfold laneCode
  cases c.L.getLsbD b <;> cases c.H.getLsbD b <;> decide

/-- On a Transform's output, which holds trits in every lane, the mask says which lanes meet the difficulty. -/
theorem getLsbD_nonceMask_transform (S : Buffer) (mwm : Nat) {b : Nat} (hb : b < 64) :
    (nonceMask (transform S) mwm).getLsbD b = true ↔ MeetsDifficulty (transform S) mwm b := by
  rw [getLsbD_nonceMask _ _ hb, MeetsDifficulty]
  refine forall₃_congr fun i _ hi => ?_
  exact (laneCode_eq_zero_iff (transformOutputsValidTrits S i b (by omega) hb)).symm

/-- ctz of a mask that is not 0: the lane is set, and none below it (42_nonce_search.md R159). -/
theorem lowestLane_spec {m : Word} (h : m ≠ 0#64) :
    m.getLsbD (lowestLane m) = true ∧ ∀ b, b < lowestLane m → m.getLsbD b = false := by
  cases hf : (List.range Config.lanes).find? fun b => m.getLsbD b with
  | none =>
    refine absurd (BitVec.eq_of_getLsbD_eq fun b hb => ?_) h
    simpa using List.find?_eq_none.mp hf b (List.mem_range.mpr hb)
  | some k =>
    have hk : lowestLane m = k := by rw [lowestLane, hf, Option.getD_some]
    obtain ⟨hset, -, hbefore⟩ := List.find?_range_eq_some.mp hf
    rw [hk]
    exact ⟨hset, fun b hb => by simpa using hbefore b hb⟩

/-- Settles O45: the mask of the advanced and transformed state, read lane by lane. -/
theorem nonceIterateFindsLowestHit : Obligations.NonceIterateFindsLowestHit := by
  intro s w rest hr _ hp hm _ hi
  have hstep : step s = .next ((s.withInputs rest).withWorker w (iterateNonce s.snap (s.worker w))) := by
    rw [step_worker hr hi, workerStep_iterate (s := s.withInputs rest) hp, iterateStep]
    simp only [State.withInputs_snap, hm, State.withInputs_worker]
  refine ⟨_, hstep, ?_⟩
  unfold iterateNonce
  simp only [afterTest_pre, afterTest_work, afterTest_ck, afterTest_request, afterTest_response, true_and]
  generalize (inc (s.worker w).pre s.snap.iterLo s.snap.iterHi).2 = S
  have hmask {b : Nat} (hb : b < 64) := getLsbD_nonceMask_transform S s.snap.mwm hb
  rcases afterTest_cases (s.worker w) S (fun T => nonceMask T s.snap.mwm) .claim with
    ⟨hne, hphase, hhit⟩ | ⟨hzero, hphase, hhit⟩
  · obtain ⟨hset, hbelow⟩ := lowestLane_spec hne
    have hlt := lowestLane_lt (nonceMask (transform S) s.snap.mwm)
    rw [hhit]
    refine .inl ⟨hphase, hlt, (hmask hlt).mp hset, fun b hb hmeets => ?_⟩
    exact Bool.eq_false_iff.mp (hbelow b hb) ((hmask (hb.trans hlt)).mpr hmeets)
  · refine .inr ⟨hphase, hhit, fun b hb hmeets => ?_⟩
    have hbit := (hmask hb).mpr hmeets
    rw [show nonceMask (transform S) s.snap.mwm = 0#64 from hzero] at hbit
    simp at hbit

/-! ### Claim (42_nonce_search.md R160, R184; 43_checksum.md R200) -/

theorem getD_setIfInBounds (R : Vector Code 256) (n : Nat) (c : Code) {k : Nat} (hk : k < 256) :
    (R.setIfInBounds n c).getD k 0b00#2 = if n = k then c else R.getD k 0b00#2 := by
  simp [Vector.getD, hk, Array.getElem_setIfInBounds]

/-- Codes written one after another from slot n on: each stands in its slot, every other slot is as before. -/
theorem getD_foldl_zipIdx (codes : List Code) (n : Nat) (R : Vector Code 256) {k : Nat} (hk : k < 256) :
    ((codes.zipIdx n).foldl (fun r x => r.setIfInBounds x.2 x.1) R).getD k 0b00#2 =
      if n ≤ k ∧ k < n + codes.length then codes.getD (k - n) 0b00#2 else R.getD k 0b00#2 := by
  induction codes generalizing n R with
  | nil => rw [if_neg (by simp)]; rfl
  | cons c codes ih =>
    rw [List.zipIdx_cons, List.foldl_cons, ih, List.length_cons, getD_setIfInBounds R n c hk]
    rcases Nat.lt_trichotomy k n with hlt | rfl | hgt
    · rw [if_neg (by omega), if_neg (by omega), if_neg (by omega)]
    · rw [if_neg (by omega), if_pos rfl, if_pos (by omega), Nat.sub_self, List.getD_cons_zero]
    · obtain ⟨j, rfl⟩ : ∃ j, k = n + 1 + j := ⟨k - (n + 1), by omega⟩
      rw [Nat.add_sub_cancel_left, show n + 1 + j - n = j + 1 by omega, List.getD_cons_succ,
        if_neg (show n ≠ n + 1 + j by omega)]
      exact if_congr (by omega) rfl rfl

theorem getD_writeResult (R : Vector Code 256) (codes : List Code) {k : Nat} (hk : k < 256) :
    (writeResult R codes).getD k 0b00#2 = if k < codes.length then codes.getD k 0b00#2 else R.getD k 0b00#2 := by
  refine (getD_foldl_zipIdx codes 0 R hk).trans ?_
  exact if_congr (by omega) rfl rfl

@[simp] theorem laneCodes_length (B : Buffer) (base len b : Nat) : (laneCodes B base len b).length = len := by
  simp [laneCodes]

/-- The slots after a win: the lane's codes over the mode's region, the others as before. -/
theorem getD_writeResult_laneCodes (R : Vector Code 256) (B : Buffer) (base len b : Nat) {k : Nat} (hk : k < 256) :
    (writeResult R (laneCodes B base len b)).getD k 0b00#2 =
      if k < len then laneCode (getCell B (base + k)) b else R.getD k 0b00#2 := by
  rw [getD_writeResult R _ hk, laneCodes_length]
  split
  · rename_i hlen; simp [laneCodes, hlen]
  · rfl

/-- Settles O50: a win is a write of the mode's codes and a stop, every other Claim a stop. -/
theorem claimWinsOnlyWhileRunning : Obligations.ClaimWinsOnlyWhileRunning := by
  intro s w rest hr _ hp hi base len
  have hstep : step s = .next (claimStep w (s.withInputs rest)) :=
    (step_worker hr hi).trans (congrArg _ (workerStep_claim (s := s.withInputs rest) hp))
  rw [hstep, claimStep]
  constructor <;> intro hf
  · have hcodes : resultCodes s.snap (s.worker w) = laneCodes (s.worker w).pre base len (s.worker w).hit := by
      unfold resultCodes base len
      cases s.snap.mode <;> rfl
    have hwin : winSearch w (s.withInputs rest) =
        { s with
          inputs := rest, flag := .completed,
          result := writeResult s.result (laneCodes (s.worker w).pre base len (s.worker w).hit),
          resultLen := len, winLane := (s.worker w).hit, winWorker := w } := by
      rw [winSearch, State.withInputs_snap, State.withInputs_worker, hcodes, laneCodes_length]
      rfl
    refine ⟨_, ?_, fun k hk => getD_writeResult_laneCodes s.result _ base len _ hk⟩
    have hwon : (winSearch w (s.withInputs rest)).flag ≠ .running := nofun
    rw [if_pos (show (s.withInputs rest).flag = .running from hf), stopWorker_of_not_running w hwon, hwin]
    rfl
  · have hf' : (s.withInputs rest).flag ≠ .running := hf
    rw [if_neg hf', stopWorker_of_not_running w hf']
    rfl

/-! ### What each agent leaves alone (20_memory.md R84, 42_nonce_search.md R181) -/

/-- A worker's step touches no other worker. -/
theorem workerStep_worker_other {w v : Nat} (s : State) (h : v ≠ w) : (workerStep w s).worker v = s.worker v := by
  rcases workerStep_cases w s with hs | ⟨W, hs⟩ | ⟨-, -, -, hs⟩ | ⟨-, -, hs⟩ | ⟨-, -, hs⟩ <;> rw [hs]
  · exact State.worker_withWorker_other s w v W h
  · exact (stopWorker_worker_other w v _ h).trans (State.worker_withWorker_other s w v _ h)
  · exact stopWorker_worker_other w v s h
  · exact stopWorker_worker_other w v _ h

/-- Of the shared state a worker's step touches the search state, DONE and the result alone. -/
theorem workerStep_frame (w : Nat) (s : State) :
    workerStep w s =
      { s with
        workers := (workerStep w s).workers, flag := (workerStep w s).flag, active := (workerStep w s).active,
        done := (workerStep w s).done, result := (workerStep w s).result, resultLen := (workerStep w s).resultLen,
        winLane := (workerStep w s).winLane, winWorker := (workerStep w s).winWorker } := by
  rcases workerStep_cases w s with hs | ⟨W, hs⟩ | ⟨-, -, -, hs⟩ | ⟨-, -, hs⟩ | ⟨-, -, hs⟩ <;> rw [hs] <;> rfl

/-- A host access leaves the workers, or it starts a search. -/
def WorkersKeptOrStarted (s t : State) : Prop :=
  t.workers = s.workers ∨ (s.active = 0 ∧ t.flag = .running ∧ t.err = .ok)

theorem runCommand_workers {cs : List (Bool × ErrCode)} {f : State → State} {s t : State}
    (hf : (f s).workers = s.workers) (h : runCommand cs f s = .next t) : t.workers = s.workers := by
  rcases runCommand_next h with ⟨e, -, rfl⟩ | ⟨-, rfl⟩
  · rfl
  · exact hf

theorem exec_workers {i : Instr} {s t : State} (h : exec i s = .next t) : WorkersKeptOrStarted s t := by
  have search (hi : i = .searchNonce ∨ i = .searchChecksum) : WorkersKeptOrStarted s t := by
    obtain ⟨m, hexec⟩ := exec_search hi s
    rcases runCommand_next (hexec.symm.trans h) with ⟨e, -, rfl⟩ | ⟨hc, rfl⟩
    · exact .inl rfl
    · exact .inr ⟨(searchChecks_ready hc).1, rfl, rfl⟩
  cases i with
  | nop => cases h; exact .inl rfl
  | absorbInit => exact .inl (runCommand_workers rfl h)
  | absorbTrits n auto => exact .inl (runCommand_workers (SearchKept.absorbAll auto _ s).workers h)
  | padRate => exact .inl (runCommand_workers rfl h)
  | permute => exact .inl (runCommand_workers (permuteMid_workers s) h)
  | lanePattern off => exact .inl (runCommand_workers rfl h)
  | increment lo hi => exact .inl (runCommand_workers rfl h)
  | readCell idx => exact .inl (runCommand_workers rfl h)
  | writeCell idx => exact .inl (runCommand_workers rfl h)
  | searchNonce => exact search (.inl rfl)
  | searchChecksum => exact search (.inr rfl)
  | cancel => cases h; exact .inl rfl

theorem hostWrite_workers {addr bytes : Nat} {v : Reg} {s t : State} (h : hostWrite addr bytes v s = .next t) :
    WorkersKeptOrStarted s t := by
  unfold hostWrite at h
  split at h
  · unfold submitCommand at h
    split at h
    · exact exec_workers h
    · cases h; exact .inl rfl
  · cases h; exact .inl (SearchKept.writeRegister _ v s).workers
  · cases h
  · cases h

theorem hostRead_workers {addr bytes : Nat} {s t : State} (h : hostRead addr bytes s = .next t) :
    t.workers = s.workers := by
  unfold hostRead at h
  split at h <;> cases h
  rfl

/-- Settles O51: the frame of each agent's move. -/
theorem privateStateStaysPrivate : Obligations.PrivateStateStaysPrivate := by
  intro s t x rest hr hi h
  refine ⟨?_, ?_, ?_⟩
  · rintro w rfl
    have hstep := step_worker hr hi
    obtain rfl : workerStep w (s.withInputs rest) = t := by rw [hstep] at h; cases h; rfl
    exact ⟨fun hoff => hstep.trans (congrArg _ (workerStep_off (s := s.withInputs rest) hoff)),
      fun v hv => workerStep_worker_other (s.withInputs rest) hv, workerStep_frame w (s.withInputs rest)⟩
  · rintro addr bytes rfl
    exact hostRead_workers (s := s.withInputs rest) ((step_eq_runInput hr hi).symm.trans h)
  · rintro addr bytes v rfl
    exact hostWrite_workers (s := s.withInputs rest) ((step_eq_runInput hr hi).symm.trans h)

end Sys2Proof.Machine
end

section
/-! PROOF. The checksum search: its checks and its start, the balance mask, and the worker steps of its mode. -/

namespace Sys2Proof.Machine

open Sys2Proof.Safety

/-! ### The checks of SEARCH_CHECKSUM (43_checksum.md R190 to R193) -/

/-- ResolveWorkers or CheckChecksumLayout fails: the two checks of SEARCH_CHECKSUM that give ERR_RANGE (43_checksum.md
R190, R192). -/
def checksumRangeFails (s : State) : Bool := (resolveWorkers s).isNone || !checksumLayout s

theorem checksumLayout_iff {s : State} :
    checksumLayout s = true ↔
      1 ≤ s.targetLength.toNat ∧ s.ckBase.toNat + s.targetLength.toNat ≤ 243 ∧ s.ckBase.toNat ≤ s.partLo.toNat ∧
      s.partLo.toNat ≤ s.partHi.toNat ∧ s.partHi.toNat ≤ s.iterLo.toNat ∧
      s.iterLo.toNat < s.ckBase.toNat + s.targetLength.toNat ∧ s.sumLength.toNat ≤ 243 := by
  simp only [checksumLayout, Bool.and_eq_true, decide_eq_true_eq, and_assoc]
  rfl

theorem checksumRangeFails_iff {s : State} :
    checksumRangeFails s = true ↔
      s.params.nwMax < s.nworkers.toNat ∨
      ¬ (1 ≤ s.targetLength.toNat ∧ s.ckBase.toNat + s.targetLength.toNat ≤ 243 ∧
        s.ckBase.toNat ≤ s.partLo.toNat ∧ s.partLo.toNat ≤ s.partHi.toNat ∧ s.partHi.toNat ≤ s.iterLo.toNat ∧
        s.iterLo.toNat < s.ckBase.toNat + s.targetLength.toNat ∧ s.sumLength.toNat ≤ 243) := by
  rw [checksumRangeFails, Bool.or_eq_true, Option.isNone_iff_eq_none, resolveWorkers_eq_none_iff, Bool.not_eq_true',
    ← Bool.not_eq_true, checksumLayout_iff]

theorem resolveWorkers_ne_none_of_checksumRange {s : State} (h : checksumRangeFails s = false) :
    resolveWorkers s ≠ none := by
  intro hnone
  simp [checksumRangeFails, hnone] at h

/-- The partition, or the rate from ITER_LO on, holds a cell that is no digit (43_checksum.md R193). -/
def checksumCellsMixed (s : State) : Bool :=
  !uniformRange s.mid s.partLo.toNat s.partHi.toNat || !uniformRange s.mid s.iterLo.toNat Config.hashLength

theorem checksumCellsMixed_iff {s : State} :
    checksumCellsMixed s = true ↔
      ¬ (UniformCells s.mid s.partLo.toNat s.partHi.toNat ∧ UniformCells s.mid s.iterLo.toNat 243) := by
  rw [checksumCellsMixed, ← Bool.not_and, Bool.not_eq_true', ← Bool.not_eq_true, Bool.and_eq_true,
    uniformRange_iff_uniformCells, uniformRange_iff_uniformCells]
  rfl

/-- On a ready device SEARCH_CHECKSUM has three checks, one for each error code. -/
theorem firstError_checksumChecks {s : State} (hidle : s.active = 0) (hmid : s.midValid = true) :
    firstError (checksumChecks s) =
      firstError
        [(checksumRangeFails s, .range), (partitionTooSmall ((resolveWorkers s).getD 0) s, .partition),
         (checksumCellsMixed s, .nonUniform)] := by
  rw [checksumChecks, firstError_readyChecks_append hidle hmid, firstError_cons_cons_same]
  rfl

/-- Settles O41: of the three checks the first that fails decides; none of them reads ABS_TOTAL or MWM. -/
theorem searchChecksumRejections : Obligations.SearchChecksumRejections := by
  intro s hidle hmid range partition mixed
  have hrange : checksumRangeFails s = true ↔ range := checksumRangeFails_iff
  have hmixed : checksumCellsMixed s = true ↔ mixed := checksumCellsMixed_iff
  have reject {e : ErrCode} (h : firstError (checksumChecks s) = some e) :
      exec .searchChecksum s = .next { s with err := e } := runCommand_rejected _ s h
  rw [firstError_checksumChecks hidle hmid] at reject
  have hpart (hr : ¬ range) : partitionTooSmall ((resolveWorkers s).getD 0) s = true ↔ partition :=
    partitionTooSmall_iff (resolveWorkers_ne_none_of_checksumRange (Bool.eq_false_iff.mpr (mt hrange.mp hr)))
  refine ⟨fun hr => reject ?_, fun hr hp => reject ?_, fun hr hp hm => reject ?_⟩
  · exact firstError_cons_of_true (hrange.mpr hr) _ _
  · rw [firstError_cons_of_false (Bool.eq_false_iff.mpr (mt hrange.mp hr))]
    exact firstError_cons_of_true ((hpart hr).mpr hp) _ _
  · rw [firstError_cons_of_false (Bool.eq_false_iff.mpr (mt hrange.mp hr)),
      firstError_cons_of_false (Bool.eq_false_iff.mpr (mt (hpart hr).mp hp))]
    exact firstError_cons_of_true (hmixed.mpr hm) _ _

/-- Settles O40: the hypotheses pass the three checks, and the count is the one that ResolveWorkers gives. -/
theorem searchChecksumStarts : Obligations.SearchChecksumStarts := by
  intro s n hidle hmid hcount hlen hend hbase hple hphi hilt hsum hfits hpart hiter
  have hres := resolveWorkers_eq_some_iff.mpr hcount
  have hrange : checksumRangeFails s = false := by
    rw [checksumRangeFails, hres, checksumLayout_iff.mpr ⟨hlen, hend, hbase, hple, hphi, hilt, hsum⟩]
    rfl
  have hsmall : partitionTooSmall ((resolveWorkers s).getD 0) s = false := by
    rw [hres, Option.getD_some]
    exact decide_eq_false (Nat.not_lt.mpr hfits)
  have hmixed : checksumCellsMixed s = false :=
    Bool.eq_false_iff.mpr fun h => checksumCellsMixed_iff.mp h ⟨hpart, hiter⟩
  have haccept :
      exec .searchChecksum s = .next ((startSearch .checksum ((resolveWorkers s).getD 0) s).withErr .ok) := by
    refine runCommand_accepted _ s ?_
    rw [firstError_checksumChecks hidle hmid, firstError_cons_of_false hrange, firstError_cons_of_false hsmall,
      firstError_cons_of_false hmixed]
    rfl
  rw [hres, Option.getD_some] at haccept
  exact ⟨_, haccept, spawned_spawn .checksum n s⟩

/-! ### The balance mask (43_checksum.md R199, R201) -/

/-- A test that holds where one of two holds, which never hold together, counts both. -/
theorem countP_eq_add_of_disjoint {α : Type} {p q r : α → Bool} (hor : ∀ x, p x = (q x || r x))
    (hdisjoint : ∀ x, (q x && r x) = false) (l : List α) : l.countP p = l.countP q + l.countP r := by
  induction l with
  | nil => rfl
  | cons x l ih =>
    have hx := hdisjoint x
    rw [List.countP_cons, List.countP_cons, List.countP_cons, ih, hor]
    cases hq : q x <;> cases hr : r x <;> simp [hq, hr] at hx ⊢ <;> omega

/-- Where a bit of a code is set in two trits alone, the cells of a lane with that bit hold the one or the other. -/
theorem countP_laneCode_bit (T : Buffer) (sl b : Nat) {bit : Nat} {t u : Trit} (htu : codeOf t ≠ codeOf u)
    (hbit : ∀ c : Code, c.getLsbD bit = true ↔ c = codeOf t ∨ c = codeOf u) :
    ((List.range sl).countP fun i => (laneCode (getCell T i) b).getLsbD bit) =
      laneCount T sl b t + laneCount T sl b u := by
  refine countP_eq_add_of_disjoint (fun i => ?_) (fun i => ?_) _
  · rw [Bool.eq_iff_iff, Bool.or_eq_true, decide_eq_true_eq, decide_eq_true_eq, hbit]
  · refine Bool.eq_false_iff.mpr fun h => ?_
    rw [Bool.and_eq_true, decide_eq_true_eq, decide_eq_true_eq] at h
    exact htu (h.1.symm.trans h.2)

/-- The low bit is set in the trits 0 and -1 alone (30_encoding.md R90). -/
theorem popcount_lowVector (T : Buffer) (sl b : Nat) :
    popcount (lowVector T sl b) = laneCount T sl b .zero + laneCount T sl b .neg := by
  rw [← countP_laneCode_bit T sl b (bit := 0) (by decide) (by decide), popcount, lowVector, List.count,
    List.countP_map]
  simp only [laneCode_low, Function.comp_def, beq_true]

/-- The high bit is set in the trits 0 and +1 alone (30_encoding.md R90). -/
theorem popcount_highVector (T : Buffer) (sl b : Nat) :
    popcount (highVector T sl b) = laneCount T sl b .zero + laneCount T sl b .pos := by
  rw [← countP_laneCode_bit T sl b (bit := 1) (by decide) (by decide), popcount, highVector, List.count,
    List.countP_map]
  simp only [laneCode_high, Function.comp_def, beq_true]

/-- The zeros count in both bit-vectors of a lane, so they cancel. A code 0b00 counts in neither: no validity is
needed. -/
theorem getLsbD_balanceMask (T : Buffer) (sl : Nat) {b : Nat} (hb : b < 64) :
    (balanceMask T sl).getLsbD b = true ↔ ZeroSum T sl b := by
  have hlane : (balanceMask T sl).getLsbD b = laneBalanced T sl b := by simp [balanceMask, hb]
  rw [hlane, laneBalanced, beq_iff_eq, popcount_lowVector, popcount_highVector, ZeroSum]
  omega

/-- Settles O46: a lane's two counts differ by its +1 and -1 alone. -/
theorem balancedLaneIffZeroSum : Obligations.BalancedLaneIffZeroSum :=
  fun T sl _ hb _ => getLsbD_balanceMask T sl hb

/-! ### The Iterate step in checksum mode (43_checksum.md R196 to R198) -/

theorem step_iterate {s : State} {w : Nat} {rest : List Input} (hr : s.rst = false)
    (hp : (s.worker w).phase = .iterate) (hi : s.inputs = .worker w :: rest) :
    step s = .next (iterateStep w (s.withInputs rest)) :=
  (step_worker hr hi).trans (congrArg _ (workerStep_iterate (s := s.withInputs rest) hp))

/-- Exhausted: an overflow at the ceiling (43_checksum.md R198). -/
theorem exhausts_iff {c : Snap} {W : Worker} :
    exhausts c W = true ↔ (inc W.pre c.iterLo (c.ckBase + W.ck)).1 = true ∧ c.ckBase + W.ck = 243 := by
  rw [exhausts, Bool.and_eq_true, decide_eq_true_eq]
  rfl

section ChecksumMode

variable {s : State} {w : Nat}

theorem iterateStep_exhausted (hm : s.snap.mode = .checksum) (he : exhausts s.snap (s.worker w) = true) :
    iterateStep w s =
      stopWorker w (s.withWorker w { s.worker w with pre := (checksumInc s.snap (s.worker w)).2 }) := by
  simp only [iterateStep, hm, he, if_true]

theorem iterateStep_checksum (hm : s.snap.mode = .checksum) (he : ¬ exhausts s.snap (s.worker w) = true) :
    iterateStep w s = s.withWorker w (iterateChecksum s.snap w (s.worker w)) := by
  simp only [iterateStep, hm, if_neg he]

/-- Of two writes to one worker the second stays. -/
theorem State.withWorker_withWorker (s : State) (w : Nat) (W V : Worker) :
    (s.withWorker w W).withWorker w V = s.withWorker w V := by
  rw [State.withWorker, State.withWorker, State.withWorker, List.set_set]

/-- A worker that is written and then stops is written once, with phase Off. -/
theorem stopWorker_withWorker (hw : w < s.workers.length) (W : Worker) :
    stopWorker w (s.withWorker w W) =
      { s with
        workers := s.workers.set w { W with phase := .off }
        active := s.active - 1
        flag := if s.active - 1 = 0 ∧ s.flag = .running then .exhausted else s.flag
        done := if s.active - 1 = 0 then true else s.done } := by
  rw [stopWorker, State.worker_withWorker_same s w W hw, State.withWorker_withWorker]
  rfl

end ChecksumMode

/-- Settles O48: at the ceiling the iteration range ends at 243, and the exhausted worker stops with its wrapped
state. -/
theorem ceilingOverflowExhausts : Obligations.CeilingOverflowExhausts := by
  intro s w rest hr hw hp hm hceil hov hi
  have he : exhausts s.snap (s.worker w) = true := exhausts_iff.mpr ⟨by rwa [hceil], hceil⟩
  rw [step_iterate hr hp hi, iterateStep_exhausted (s := s.withInputs rest) hm he,
    stopWorker_withWorker (s := s.withInputs rest) hw, checksumInc, State.withInputs_snap, State.withInputs_worker,
    hceil]
  rfl

/-! ### The request that a hit sends out (43_checksum.md R205) -/

@[simp] theorem sendVerify_work (c : Snap) (w : Nat) (W : Worker) : (sendVerify c w W).work = W.work := by
  unfold sendVerify; split <;> rfl

@[simp] theorem sendVerify_response (c : Snap) (w : Nat) (W : Worker) :
    (sendVerify c w W).response = W.response := by
  unfold sendVerify; split <;> rfl

theorem sendVerify_request (c : Snap) (w : Nat) (W : Worker) :
    (sendVerify c w W).request =
      if W.phase = .verify then some { worker := w, len := W.ck, codes := candidate c W } else W.request := by
  unfold sendVerify; split <;> rfl

/-! ### The lane that a test finds -/

/-- Where the mask's lanes are those with the property P, a test finds the lowest lane with P, or there is none. -/
theorem afterTest_lowest {S : Buffer} {mask : Buffer → Word} {P : Nat → Prop}
    (hmask : ∀ b, b < 64 → ((mask (transform S)).getLsbD b = true ↔ P b)) (W : Worker) (onHit : Phase) :
    ((afterTest W S mask onHit).phase = onHit ∧ (afterTest W S mask onHit).hit < 64 ∧
      P (afterTest W S mask onHit).hit ∧ ∀ b, b < (afterTest W S mask onHit).hit → ¬ P b) ∨
    ((afterTest W S mask onHit).phase = .check ∧ (afterTest W S mask onHit).hit = W.hit ∧ ∀ b, b < 64 → ¬ P b) := by
  rcases afterTest_cases W S mask onHit with ⟨hne, hphase, hhit⟩ | ⟨hzero, hphase, hhit⟩
  · obtain ⟨hset, hbelow⟩ := lowestLane_spec hne
    have hlt := lowestLane_lt (mask (transform S))
    rw [hhit]
    refine .inl ⟨hphase, hlt, (hmask _ hlt).mp hset, fun b hb hP => ?_⟩
    exact Bool.eq_false_iff.mp (hbelow b hb) ((hmask b (hb.trans hlt)).mpr hP)
  · refine .inr ⟨hphase, hhit, fun b hb hP => ?_⟩
    have hbit := (hmask b hb).mpr hP
    rw [hzero] at hbit
    simp at hbit

/-- Settles O47: the worker is widened, advanced and tested by the balance mask, whose lanes are those of zero sum; a
hit sends a request iff it leads to Verify. -/
theorem checksumIterateFindsLowestBalanced : Obligations.ChecksumIterateFindsLowestBalanced := by
  intro s w rest hr _ hp hm _ _ hi r hne
  have hlive : ¬ exhausts s.snap (s.worker w) = true := mt exhausts_iff.mp hne
  have hstep : step s = .next ((s.withInputs rest).withWorker w (iterateChecksum s.snap w (s.worker w))) :=
    (step_iterate hr hp hi).trans (congrArg _ (iterateStep_checksum (s := s.withInputs rest) hm hlive))
  have hmask (b : Nat) := getLsbD_balanceMask (transform r.2) s.snap.sumLength (b := b)
  have hlane := afterTest_lowest (mask := fun T => balanceMask T s.snap.sumLength) hmask
    { s.worker w with ck := if r.1 then widen s.snap (s.worker w).ck else (s.worker w).ck }
    (if s.snap.verifyEn then .verify else .claim)
  refine ⟨_, hstep, ?_⟩
  have hinc : checksumInc s.snap (s.worker w) = r := rfl
  rw [iterateChecksum, hinc]
  simp only [sendVerify_pre, sendVerify_work, sendVerify_ck, sendVerify_response, sendVerify_phase, sendVerify_hit,
    sendVerify_request, candidate, afterTest_pre, afterTest_work, afterTest_ck, afterTest_response,
    afterTest_request, true_and]
  refine ⟨rfl, ?_⟩
  rcases hlane with ⟨hphase, hlt, hzero, hbelow⟩ | ⟨hphase, hhit, hnone⟩
  · refine .inl ⟨hphase, hlt, hzero, hbelow, ?_⟩
    rw [hphase]
    cases s.snap.verifyEn <;> rfl
  · exact .inr ⟨hphase, hhit, if_neg (by rw [hphase]; decide), hnone⟩

/-! ### Verify and the verifier's answer (43_checksum.md R205 to R207) -/

/-- A Verify step without an answer is not enabled. -/
theorem verifyStep_waits {s : State} {w : Nat} (h : (s.worker w).response = none) : verifyStep w s = s := by
  rw [verifyStep, h]

theorem verifyStep_answered {s : State} {w : Nat} {a : Bool} (h : (s.worker w).response = some a) :
    verifyStep w s =
      s.withWorker w { s.worker w with response := none, phase := if a then .claim else .check } := by
  rw [verifyStep, h]

theorem workerStep_verify {s : State} {w : Nat} (h : (s.worker w).phase = .verify) :
    workerStep w s = verifyStep w s := by
  rw [workerStep, h]

theorem step_verify {s : State} {w : Nat} {rest : List Input} (hr : s.rst = false)
    (hp : (s.worker w).phase = .verify) (hi : s.inputs = .worker w :: rest) :
    step s = .next (verifyStep w (s.withInputs rest)) :=
  (step_worker hr hi).trans (congrArg _ (workerStep_verify (s := s.withInputs rest) hp))

theorem step_verifyRsp {s : State} {w : Nat} {a : Bool} {rest : List Input} (hr : s.rst = false)
    (hi : s.inputs = .verifyRsp w a :: rest) : step s = .next (takeVerifyRsp w a (s.withInputs rest)) :=
  step_eq_runInput hr hi

theorem takeVerifyRsp_ignored {s : State} {w : Nat} (a : Bool) (h : (s.worker w).phase ≠ .verify) :
    takeVerifyRsp w a s = s :=
  if_neg fun hx => h hx.1

theorem takeVerifyRsp_taken {s : State} {w : Nat} (a : Bool) (hp : (s.worker w).phase = .verify)
    (hq : (s.worker w).request.isSome = true) :
    takeVerifyRsp w a s = s.withWorker w { s.worker w with request := none, response := some a } :=
  if_pos ⟨hp, hq⟩

/-- Settles O49: a case split on the worker's answer slot, and for an answer on its phase. -/
theorem verifyFollowsTheAnswer : Obligations.VerifyFollowsTheAnswer := by
  intro s w rest hr _
  refine ⟨fun hi hp => ⟨fun hnone => ?_, fun a ha => ?_⟩, fun a hi => ⟨fun hp => ?_, fun hp hq => ?_⟩⟩
  · rw [step_verify hr hp hi, verifyStep_waits (s := s.withInputs rest) hnone]
    rfl
  · rw [step_verify hr hp hi, verifyStep_answered (s := s.withInputs rest) ha]
    rfl
  · rw [step_verifyRsp hr hi, takeVerifyRsp_ignored (s := s.withInputs rest) a hp]
    rfl
  · rw [step_verifyRsp hr hi, takeVerifyRsp_taken (s := s.withInputs rest) a hp hq]
    rfl

end Sys2Proof.Machine
end

section
/-! PROOF. The host access commands NOP, READ_CELL and WRITE_CELL, and the two round trips through the staging
registers. -/

namespace Sys2Proof.Machine

open Sys2Proof.Safety

/-! ### NOP (44_host_access.md R220) -/

/-- Settles O20: NOP has no check that could fail, and no effect but on ERR. -/
theorem nopClearsErr : Obligations.NopClearsErr := fun s => runCommand_accepted (cs := []) id s rfl

/-! ### READ_CELL and WRITE_CELL on a device that is ready (44_host_access.md R221, R222) -/

section Ready

variable {s : State} {idx : Nat} (hidle : s.active = 0) (hmid : s.midValid = true) (hidx : idx ≤ 728)
include hidle hmid hidx

/-- The one check that both commands have of their own passes for every cell of MID. -/
theorem runCommand_cellIndex_accepted (f : State → State) :
    runCommand (readyChecks s ++ [(decide (728 < idx), .range)]) f s = .next ((f s).withErr .ok) :=
  runCommand_ready_accepted hidle hmid
    (firstError_cons_of_false (decide_eq_false (Nat.not_lt.mpr hidx)) .range []) f

theorem exec_readCell_accepted : exec (.readCell idx) s = .next ((loadStaging idx s).withErr .ok) :=
  runCommand_cellIndex_accepted hidle hmid hidx (loadStaging idx)

theorem exec_writeCell_accepted : exec (.writeCell idx) s = .next ((storeStaging idx s).withErr .ok) :=
  runCommand_cellIndex_accepted hidle hmid hidx (storeStaging idx)

end Ready

/-- Settles O21: the effect of an accepted READ_CELL. -/
theorem readCellCopiesCell : Obligations.ReadCellCopiesCell :=
  fun _ _ hidle hmid hidx => exec_readCell_accepted hidle hmid hidx

theorem getCell_replaced (B : Buffer) (idx : Nat) (c : Cell) {i : Nat} (h : i < 729) :
    getCell (replaced B idx c) i = if i = idx then c else getCell B i := by
  simp [getCell_eq _ h, replaced]

theorem setCell_eq_replaced (B : Buffer) {idx : Nat} (c : Cell) (h : idx < 729) :
    setCell B idx c = replaced B idx c :=
  buffer_ext fun i hi => by rw [getCell_setCell B idx i c h, getCell_replaced B idx c hi]

/-- Settles O22: an accepted WRITE_CELL, with the reference form of its write. -/
theorem writeCellStoresStaging : Obligations.WriteCellStoresStaging := by
  intro s idx hidle hmid hidx
  rw [exec_writeCell_accepted hidle hmid hidx, storeStaging, setCell_eq_replaced _ _ (by omega), State.withMid,
    State.withErr]

/-! ### The round trips (44_host_access.md R224) -/

/-- The staging registers after a read hold the cell of MID. -/
theorem loadStaging_cell (idx : Nat) (s : State) :
    (⟨(loadStaging idx s).cellL, (loadStaging idx s).cellH⟩ : Cell) = getCell s.mid idx := rfl

theorem getCell_storeStaging_same (s : State) {idx : Nat} (h : idx ≤ 728) :
    getCell (storeStaging idx s).mid idx = ⟨s.cellL, s.cellH⟩ :=
  getCell_setCell_same s.mid idx ⟨s.cellL, s.cellH⟩ (by omega)

/-- A read puts into the staging registers what a write of the same cell finds in MID. -/
theorem storeStaging_loadStaging_mid (idx : Nat) (s : State) :
    (storeStaging idx (loadStaging idx s)).mid = s.mid := by
  rw [storeStaging, State.withMid_mid, loadStaging_cell]
  exact setCell_getCell s.mid idx

/-- Settles O23: the first command leaves the fields that the checks of the second look at, so both are accepted; then
the laws of one cell's read and write say the rest. -/
theorem cellAccessRoundTrip : Obligations.CellAccessRoundTrip := by
  intro s idx hidle hmid hidx
  refine ⟨fun l h => ?_, ?_⟩
  · have hidle' : (storeStaging idx s).active = 0 := (storeStaging_active idx s).trans hidle
    have hmid' : (storeStaging idx s).midValid = true := (storeStaging_midValid idx s).trans hmid
    have hcell := getCell_storeStaging_same s hidx
    exact ⟨_, _, exec_writeCell_accepted hidle hmid hidx, exec_readCell_accepted hidle' hmid' hidx,
      congrArg Cell.L hcell, congrArg Cell.H hcell⟩
  · have hidle' : (loadStaging idx s).active = 0 := (loadStaging_active idx s).trans hidle
    have hmid' : (loadStaging idx s).midValid = true := (loadStaging_midValid idx s).trans hmid
    exact ⟨_, _, exec_readCell_accepted hidle hmid hidx, exec_writeCell_accepted hidle' hmid' hidx,
      storeStaging_loadStaging_mid idx s⟩

end Sys2Proof.Machine
end

section
/-! PROOF. Command errors: what a rejected command leaves unchanged, the two checks that come before all others, and
the codes that each command can give. -/

namespace Sys2Proof.Machine

/-! ### A command that ends with an error code (60_exceptions.md R231, R242) -/

/-- An accepted command ends with ERR_OK, so one that ends with another code was rejected. -/
theorem runCommand_of_err_ne_ok {cs : List (Bool × ErrCode)} {f : State → State} {s t : State}
    (h : runCommand cs f s = .next t) (herr : t.err ≠ .ok) : t = s.withErr t.err := by
  rcases runCommand_next h with ⟨e, -, rfl⟩ | ⟨-, rfl⟩
  · rfl
  · exact absurd (State.withErr_err (f s) .ok) herr

theorem exec_of_err_ne_ok {i : Instr} {s t : State} (h : exec i s = .next t) (herr : t.err ≠ .ok) :
    t = s.withErr t.err := by
  cases i with
  | nop => exact runCommand_of_err_ne_ok (cs := []) (f := id) h herr
  | cancel => exact runCommand_of_err_ne_ok (cs := []) (f := cancelSearch) h herr
  | _ => exact runCommand_of_err_ne_ok h herr

/-- Settles O14: every command completes, and all that can end with an error code is a rejection. -/
theorem commandErrorChangesOnlyErr : Obligations.CommandErrorChangesOnlyErr := by
  intro i s
  obtain ⟨t, h⟩ := exec_completes i s
  exact ⟨t, h, exec_of_err_ne_ok h⟩

/-! ### The BUSY and UNINIT checks (60_exceptions.md R232, R233, R236) -/

/-- Settles O15: BUSY is the first check of every command that has one. -/
theorem busyRejectsCommands : Obligations.BusyRejectsCommands :=
  fun _ _ hbusy hnop hcancel => exec_busy hbusy hnop hcancel

/-- A command whose second check is UNINIT is rejected by it on an idle device without a MID. -/
theorem runCommand_uninit {s : State} (hidle : s.active = 0) (hmid : s.midValid = false)
    (cs : List (Bool × ErrCode)) (f : State → State) :
    runCommand ((s.busy, .busy) :: (!s.midValid, .uninit) :: cs) f s = .next (s.withErr .uninit) := by
  have hbusy : s.busy = false := by simp [State.busy, hidle]
  have huninit : (!s.midValid) = true := by rw [hmid, Bool.not_false]
  exact runCommand_rejected f s ((firstError_cons_of_false hbusy _ _).trans (firstError_cons_of_true huninit _ cs))

/-- Settles O16: UNINIT is the second check of every command but NOP, ABSORB_INIT and CANCEL. -/
theorem uninitRejectsCommands : Obligations.UninitRejectsCommands := by
  intro i s hidle hmid hnop hinit hcancel
  cases i with
  | nop => exact absurd rfl hnop
  | absorbInit => exact absurd rfl hinit
  | cancel => exact absurd rfl hcancel
  | _ => exact runCommand_uninit hidle hmid _ _

/-! ### The codes that a command can give (60_exceptions.md R239) -/

/-- A command ends with ERR_OK or with the code of one of its checks. -/
theorem runCommand_err_mem {cs : List (Bool × ErrCode)} {f : State → State} {s t : State}
    (h : runCommand cs f s = .next t) : t.err ∈ .ok :: cs.map Prod.snd := by
  rcases runCommand_next h with ⟨e, he, rfl⟩ | ⟨-, rfl⟩
  · exact List.mem_cons_of_mem _ (List.mem_map_of_mem (firstError_mem he))
  · exact List.mem_cons_self

/-- Settles O17: the codes of each command's checks, of which the searches give ERR_RANGE more than once. -/
theorem possibleErrorCodes : Obligations.PossibleErrorCodes := by
  intro i s t h
  cases i with
  | nop => exact runCommand_err_mem (cs := []) (f := id) h
  | cancel => exact runCommand_err_mem (cs := []) (f := cancelSearch) h
  | searchNonce => simpa [nonceChecks, readyChecks] using runCommand_err_mem (cs := nonceChecks s) h
  | searchChecksum => simpa [checksumChecks, readyChecks] using runCommand_err_mem (cs := checksumChecks s) h
  | _ => exact runCommand_err_mem h

end Sys2Proof.Machine
end

section
/-! PROOF. Reset: the device right after it, the moves of rst, and the moves that come while rst is held
(70_reset_and_hazards.md R261). -/

namespace Sys2Proof.Machine

open Sys2Proof.Safety

/-- Settles O57: Shape and Digits each hold of the reset state, as their step proofs need it too. -/
theorem resetMeetsInvariants : Obligations.ResetMeetsInvariants := fun p hp => ⟨.resetOf hp, .resetOf p⟩

/-! ### What the device shows once rst is asserted -/

/-- Every worker is as after reset, one that does not exist included. -/
@[simp] theorem assertRst_worker (s : State) (w : Nat) : (assertRst s).worker w = Worker.blank :=
  List.getD_eq_getElem?_getD.trans (List.getElem?_getD_replicate_default_eq Worker.blank s.params.nwMax w)

/-- No worker has a request out. -/
@[simp] theorem assertRst_verifyReq (s : State) : (assertRst s).verifyReq = [] :=
  List.filterMap_eq_nil_iff.mpr fun _ hW => by rw [List.eq_of_mem_replicate hW]; rfl

/-- What assertRst keeps besides the parameters (rst, the read-data port, the model's own fields) is in no register. -/
theorem readRegister_assertRst (s : State) (r : Register) :
    readRegister (assertRst s) r = readRegister (State.resetOf s.params) r := by
  cases r <;> rfl

/-! ### The moves of rst -/

/-- A move of rst drives the input whether or not rst is held (log entry 8). -/
theorem step_rst {s : State} {level : Bool} {rest : List Input} (hi : s.inputs = .rst level :: rest) :
    step s = .next (driveRst level (s.withInputs rest)) := by
  rw [step, hi]
  exact ite_self _

/-- Settles O59: a high level asserts rst on any device, and a low one lowers it. -/
theorem rstResetsTheDevice : Obligations.RstResetsTheDevice := by
  intro s rest
  refine ⟨fun hi => ⟨assertRst (s.withInputs rest), step_rst hi, rfl, rfl, rfl, fun w => ?_, ?_, rfl, fun r hr => ?_⟩,
    step_rst⟩
  · rw [assertRst_worker]; rfl
  · exact assertRst_verifyReq _
  · exact (readRegister_assertRst _ r).trans (readRegister_resetOf _ hr)

/-! ### The moves while rst is held -/

theorem step_held {s : State} {x : Input} {rest : List Input} (hr : s.rst = true) (hi : s.inputs = x :: rest) :
    step s = .next (runInputHeld x (s.withInputs rest)) := by
  rw [step, hi]
  exact if_pos hr

/-- Of the moves that are not rst's a read alone does anything to the held device, and only to what it returns
(log entry 12). -/
theorem runInputHeld_frame {x : Input} (hx : ∀ level, x ≠ .rst level) (s : State) :
    runInputHeld x s =
      { s with readData := (runInputHeld x s).readData, freeCount := (runInputHeld x s).freeCount } := by
  cases x with
  | memRead addr bytes => rfl
  | memWrite addr bytes v => rfl
  | worker w => rfl
  | verifyRsp w accept => rfl
  | rst level => exact absurd rfl (hx level)

/-- Settles O60, from the frame of a held move. -/
theorem heldDeviceAcceptsNothing : Obligations.HeldDeviceAcceptsNothing :=
  fun s _ rest hr hi hx => ⟨_, step_held hr hi, runInputHeld_frame hx (s.withInputs rest)⟩

end Sys2Proof.Machine
end
